-- ==== Sys2Proof/Word.lean ====
section
/-! DEFINITION. The bytes, the 8-lane buffer, the power-status enumeration and the Reading record (spec 00_scope.md R9; 10_state.md R20; 20_memory.md R40). -/

namespace Sys2Proof

/-- A byte: 8 bits, an unsigned value 0 to 255 (R9). -/
abbrev Byte := BitVec 8

/-- A packet buffer: exactly 8 bytes at the byte offsets 0 to 7; lane `k` is wire offset `k` (R40, R42). -/
abbrev Buffer := Vector Byte 8

/-- The source's `powerStatus` (R24, R62): network power or battery power. -/
inductive PowerStatus where
  | network
  | battery
deriving DecidableEq, Repr

/-- A Reading: 64 bits of information in four fields and nothing else (R20). -/
structure Reading where
  timestamp : BitVec 32
  tempStatus : BitVec 16
  id : Byte
  checksum : Byte
deriving DecidableEq, Repr

/-- The Reading whose four fields are 0, what the DECODE group holds after reset and after a failed DECODE (R112, R175). -/
def Reading.zero : Reading := ⟨0, 0, 0, 0⟩

end Sys2Proof
end

