-- ==== Sys2Proof/Config.lean ====
section
/-! DEFINITION. The constants the spec fixes (00_scope.md R7), the opcode values (30_encoding.md R68), the error codes (60_exceptions.md R157) and the one open parameter (00_scope.md R8). Nothing here is configurable at run time and nothing is a free value: the spec leaves no result open. -/

namespace Sys2Proof.Config

/-- `PKT_LEN`: bytes in a serialized packet (R7). -/
abbrev pktLen : Nat := 8

/-- `TEMP_MIN`: lower clamp bound, tenths of a degree (R7). -/
abbrev tempMin : Nat := 200

/-- `TEMP_MAX`: upper clamp bound, tenths of a degree (R7). -/
abbrev tempMax : Nat := 1200

/-- `TEMP_MASK`: bits 14:0 of `temp_status` (R7). -/
abbrev tempMask : BitVec 16 := 0x7FFF

/-- `POWER_BIT`: bit 15 of `temp_status` (R7). -/
abbrev powerBit : BitVec 16 := 0x8000

/-- `SUM_MOD`: modulus of the checksum sum (R7). -/
abbrev sumMod : Nat := 256

/-- `cmd_op` of ENCODE (R68). -/
abbrev opEncode : BitVec 2 := 0b00

/-- `cmd_op` of DECODE (R68). -/
abbrev opDecode : BitVec 2 := 0b01

/-- `cmd_op` of VALIDATE (R68). -/
abbrev opValidate : BitVec 2 := 0b10

/-- `cmd_op` of DESCRIBE (R68). -/
abbrev opDescribe : BitVec 2 := 0b11

/-- `out_err`: no error (R157). -/
abbrev errNone : BitVec 2 := 0

/-- `out_err`: MalformedLength (R157). Codes 2 and 3 are reserved and never produced. -/
abbrev errMalformedLength : BitVec 2 := 1

/-- `N_INSTANCES`, the one open parameter: its default (R8). The model of several instances takes the number as an
argument (Machine/Instances.lean; log entry 6). -/
abbrev nInstances : Nat := 1

end Sys2Proof.Config
end

