-- ==== Sys2Proof/Machine/Ports.lean ====
section
/-! DEFINITION. One sample of the input ports (10_state.md R24), the 64-bit drawing of a buffer (20_memory.md R42) and the drawing of a command's ports as one word (log entry 3). -/

namespace Sys2Proof

/-- The port coding of `powerStatus`: 0 = NETWORK, 1 = BATTERY (R24). -/
def PowerStatus.ofBit (b : BitVec 1) : PowerStatus :=
  if b = 1 then .battery else .network

/-- The port coding of `powerStatus`: 0 = NETWORK, 1 = BATTERY (R24). -/
def PowerStatus.toBit : PowerStatus → BitVec 1
  | .network => 0
  | .battery => 1

/-- The values of all input ports at one rising edge of `clk` (R24). Each is a binary vector of its width (R25);
`clk` itself carries no value: one sample is one edge. -/
structure Ports where
  rst : BitVec 1
  cmdValid : BitVec 1
  cmdOp : BitVec 2
  inTimestamp : BitVec 32
  inTemp : BitVec 32
  inPower : BitVec 1
  inId : BitVec 32
  inBuf : Buffer
  inLen : BitVec 16
  rdTimestamp : BitVec 32
  rdTempStatus : BitVec 16
  rdId : Byte
  rdChecksum : Byte
deriving DecidableEq, Repr

/-- The sample of a printed IDLE step: `rst = 0`, `cmd_valid = 0`, every ignored port written as 0 (R69, R73). -/
def Ports.idle : Ports :=
  ⟨0, 0, 0, 0, 0, 0, 0, Vector.replicate 8 0, 0, 0, 0, 0, 0⟩

/-- The sample of a printed RESET step: `rst = 1`, every other port written as 0 (R73, R175). -/
def Ports.reset : Ports := { Ports.idle with rst := 1 }

/-- The Reading operand on the `rd_*` ports (R67, format R). -/
def Ports.rdReading (p : Ports) : Reading :=
  ⟨p.rdTimestamp, p.rdTempStatus, p.rdId, p.rdChecksum⟩

/-- The buffer drawn as one 64-bit vector: lane `k` is bits `63-8k : 56-8k` (R42). -/
def Buffer.toBits (b : Buffer) : BitVec 64 :=
  b[0] ++ b[1] ++ b[2] ++ b[3] ++ b[4] ++ b[5] ++ b[6] ++ b[7]

/-- The buffer a 64-bit vector draws (R42). -/
def Buffer.ofBits (v : BitVec 64) : Buffer :=
  Vector.ofFn fun k : Fin 8 => v.extractLsb' (56 - 8 * k.val) 8

/-- How many bits the ports of one command have, `cmd_op` and every operand port together. -/
abbrev Ports.wordBits : Nat := 243

/-- The ports of a command drawn as one word, `cmd_op` in bits 1:0 as spec/opcode_table.json numbers it and the operand
ports above it in the order of R24. DESIGN CHOICE (log entry 3): the spec says a command "has no single instruction word"
(R67) and gives only `cmd_op` a place. -/
def Ports.toWord (p : Ports) : BitVec Ports.wordBits :=
  p.rdChecksum ++ p.rdId ++ p.rdTempStatus ++ p.rdTimestamp ++ p.inLen ++ Buffer.toBits p.inBuf ++ p.inId ++ p.inPower
    ++ p.inTemp ++ p.inTimestamp ++ p.cmdOp

/-- The sample a command word draws, under the table's qualifier `cmd_valid = 1 and rst = 0` (log entry 3). -/
def Ports.ofWord (w : BitVec Ports.wordBits) : Ports where
  rst := 0
  cmdValid := 1
  cmdOp := w.extractLsb' 0 2
  inTimestamp := w.extractLsb' 2 32
  inTemp := w.extractLsb' 34 32
  inPower := w.extractLsb' 66 1
  inId := w.extractLsb' 67 32
  inBuf := Buffer.ofBits (w.extractLsb' 99 64)
  inLen := w.extractLsb' 163 16
  rdTimestamp := w.extractLsb' 179 32
  rdTempStatus := w.extractLsb' 211 16
  rdId := w.extractLsb' 227 8
  rdChecksum := w.extractLsb' 235 8

end Sys2Proof
end

