-- ==== Sys2Proof/Syntax.lean ====
section
/-! DEFINITION. The command set: one constructor per row of spec/opcode_table.json, with the operands of its format (30_encoding.md R67, R68, R75). -/

namespace Sys2Proof

/-- A command with its operands as the ports deliver them (R67, R72). Every operand has exactly its port's width, and the
spec calls no value of any operand illegal, so every term is a command the block runs (R66, R70).
IDLE and RESET are steps, not commands, and have no opcode (R73). -/
inductive Instr where
  /-- ENCODE, format E: `in_timestamp`, `in_temp`, `in_power`, `in_id`. -/
  | encode (timestamp : BitVec 32) (temp : BitVec 32) (power : PowerStatus) (id : BitVec 32)
  /-- DECODE, format B: `in_buf[0..7]`, `in_len`. -/
  | decode (buf : Buffer) (len : BitVec 16)
  /-- VALIDATE, format R: the Reading on the `rd_*` ports. -/
  | validate (reading : Reading)
  /-- DESCRIBE, format R: the Reading on the `rd_*` ports. -/
  | describe (reading : Reading)
deriving DecidableEq, Repr

end Sys2Proof
end

