-- ==== Sys2Proof/WellFormed.lean ====
section
/-! DEFINITION. Which port samples are printed commands: the canonical form of 30_encoding.md R69. An `Instr` needs no check: each operand's type has exactly its port's width and every value is legal (R66, R70). -/

namespace Sys2Proof

/-- The ports of format E are 0 (R67, R69). -/
def Ports.formatEZero (p : Ports) : Bool :=
  p.inTimestamp == 0 && p.inTemp == 0 && p.inPower == 0 && p.inId == 0

/-- The ports of format B are 0 (R67, R69). -/
def Ports.formatBZero (p : Ports) : Bool :=
  p.inBuf == Vector.replicate 8 0 && p.inLen == 0

/-- The ports of format R are 0 (R67, R69). -/
def Ports.formatRZero (p : Ports) : Bool :=
  p.rdTimestamp == 0 && p.rdTempStatus == 0 && p.rdId == 0 && p.rdChecksum == 0

/-- A canonical (printed) command: `rst = 0`, `cmd_valid = 1`, and every port the command does not name written as zero
(R69). The block itself checks none of this. -/
def Ports.wellFormed (p : Ports) : Bool :=
  p.rst == 0 && p.cmdValid == 1 &&
    (if p.cmdOp = Config.opEncode then p.formatBZero && p.formatRZero
     else if p.cmdOp = Config.opDecode then p.formatEZero && p.formatRZero
     else p.formatEZero && p.formatBZero)

end Sys2Proof
end

