-- ==== Sys2Proof/Decode.lean ====
section
/-! DEFINITION. The decoder and the encoder of the command port (30_encoding.md R67 to R70; 10_state.md R36), and both on command words. -/

namespace Sys2Proof

/-- What one sample of the ports asks for (R36): a reset step, an idle step or a command. The two that are no command are
named, and no sample is rejected: `cmd_op` has four values and four commands (R70). -/
inductive StepEvent where
  | reset
  | idle
  | command (i : Instr)
deriving DecidableEq, Repr

/-- The command of a sample: "look at `cmd_op`, nothing else" (R68), the operands from the ports the format names (R67). -/
def decodeCommand (p : Ports) : Instr :=
  if p.cmdOp = Config.opEncode then .encode p.inTimestamp p.inTemp (.ofBit p.inPower) p.inId
  else if p.cmdOp = Config.opDecode then .decode p.inBuf p.inLen
  else if p.cmdOp = Config.opValidate then .validate p.rdReading
  else .describe p.rdReading

/-- The decoder, total on every sample: `rst` first, then `cmd_valid`, then `cmd_op` (R36, R176). -/
def decode (p : Ports) : StepEvent :=
  if p.rst = 1 then .reset
  else if p.cmdValid = 1 then .command (decodeCommand p)
  else .idle

/-- The decoder on a command word, under the table's qualifier `cmd_valid = 1 and rst = 0` (log entry 3). -/
def decodeWord (w : BitVec Ports.wordBits) : Option Instr :=
  match decode (Ports.ofWord w) with
  | .command i => some i
  | .reset => none
  | .idle => none

/-- An instruction whose bits are `w`, `nbits` of them, numbered as spec/opcode_table.json numbers them (`cmd_op` in bits
1:0); every bit above is 0. -/
def decodeTableWord (nbits w : Nat) : Option Instr :=
  decodeWord (BitVec.ofNat Ports.wordBits (w % 2 ^ nbits))

/-- The value of `cmd_op` that selects a command (R68). -/
def Instr.opcode : Instr → BitVec 2
  | .encode _ _ _ _ => Config.opEncode
  | .decode _ _ => Config.opDecode
  | .validate _ => Config.opValidate
  | .describe _ => Config.opDescribe

/-- The sample that presents a command, the ports it does not name written as zero (R67, R69). -/
def encode : Instr → Ports
  | .encode t x p n =>
    { Ports.idle with
      cmdValid := 1, cmdOp := 0b00, inTimestamp := t, inTemp := x, inPower := p.toBit, inId := n }
  | .decode b len =>
    { Ports.idle with cmdValid := 1, cmdOp := 0b01, inBuf := b, inLen := len }
  | .validate r =>
    { Ports.idle with
      cmdValid := 1, cmdOp := 0b10, rdTimestamp := r.timestamp, rdTempStatus := r.tempStatus, rdId := r.id
      rdChecksum := r.checksum }
  | .describe r =>
    { Ports.idle with
      cmdValid := 1, cmdOp := 0b11, rdTimestamp := r.timestamp, rdTempStatus := r.tempStatus, rdId := r.id
      rdChecksum := r.checksum }

/-- The command word of a command (log entry 3). -/
def encodeWord (i : Instr) : BitVec Ports.wordBits := (encode i).toWord

/-- The sample of any event in printed form (R69, R73). -/
def StepEvent.toPorts : StepEvent → Ports
  | .reset => Ports.reset
  | .idle => Ports.idle
  | .command i => encode i

end Sys2Proof
end

