-- ==== Sys2Proof/Machine/State.lean ====
section
/-! DEFINITION. The result registers, which are the whole architectural state of the block (10_state.md R23, R26), the reasons a step could stop (none: 60_exceptions.md R170), and the state after reset (R28, R175). -/

namespace Sys2Proof.Machine

/-- Faults: NONE. "The block never faults in the sense of stopping" (R170), so the type has no constructor, no meaning can
raise one, and no statement can be true because of one (log entry 9). The block's one error is a register value (R161). -/
inductive Fault where
deriving DecidableEq, Repr

/-- Refusals. The block "refuses no command" (R170). -/
inductive Refusal where
  /-- An instruction whose arm of `exec` has no meaning yet. Nothing raises it: every arm has its meaning. Safe: the machine
  would stop where the hardware goes on. -/
  | notModelled (mnemonic : String)
deriving DecidableEq, Repr

/-- The result registers of R26, each under its own name and width (152 bits), and what the requester will present. -/
structure State where
  /-- `rsp_valid`: 1 after a step that sampled a command, 0 after an idle or a reset step. -/
  rspValid : BitVec 1
  /-- `rsp_op`: the `cmd_op` of the last command sampled. -/
  rspOp : BitVec 2
  /-- `out_buf[0..7]`, written by ENCODE: the serialized packet, lane `k` is wire offset `k`. -/
  outBuf : Buffer
  /-- `out_timestamp`, written by DECODE. -/
  outTimestamp : BitVec 32
  /-- `out_temp_status`, written by DECODE. -/
  outTempStatus : BitVec 16
  /-- `out_id`, written by DECODE. -/
  outId : Byte
  /-- `out_checksum`, written by DECODE. -/
  outChecksum : Byte
  /-- `out_err`, written by DECODE: 0 none, 1 MalformedLength; 2 and 3 are never produced (R157). -/
  outErr : BitVec 2
  /-- `out_ok`, written by VALIDATE. -/
  outOk : BitVec 1
  /-- `out_power`, written by DESCRIBE: 0 network, 1 battery. -/
  outPower : BitVec 1
  /-- `out_whole`, written by DESCRIBE: whole degrees. -/
  outWhole : BitVec 12
  /-- `out_tenths`, written by DESCRIBE: tenths digit. -/
  outTenths : BitVec 4
  /-- `out_validity`, written by DESCRIBE. -/
  outValidity : BitVec 1
  /-- THE MODEL'S OWN FIELD (log entry 1): the samples of the input ports (R24) that the requester presents at the coming
  edges, oldest first. The block's registers never hold them. -/
  inputs : List Ports
deriving DecidableEq, Repr

/-- The machine right after a reset step: every result register 0 (R28, R175). Nothing is presented yet (log entry 2). -/
def State.reset : State where
  rspValid := 0
  rspOp := 0
  outBuf := Vector.replicate 8 0
  outTimestamp := 0
  outTempStatus := 0
  outId := 0
  outChecksum := 0
  outErr := 0
  outOk := 0
  outPower := 0
  outWhole := 0
  outTenths := 0
  outValidity := 0
  inputs := []

end Sys2Proof.Machine
end

