-- ==== Sys2Proof/Machine/Ops.lean ====
section
/-! DEFINITION. The named operations: `MemRead` and `MemWrite` on a buffer (20_memory.md R44, R45), `SERIALIZE` and `DESERIALIZE` (R93, R111), the writes of each result-register group (10_state.md R26, R36), raising the one error (60_exceptions.md R156), and the sampling of the ports. -/

namespace Sys2Proof.Machine

/-! ## The buffer -/

/-- `MemRead(buf, off, n)`: the `n`-byte big-endian value at offsets `off` to `off+n-1`, the byte at the lowest offset most
significant (R44). The bound is an argument: no byte at offset 8 or above exists (R40; log entry 12). -/
def memRead (buf : Buffer) (off : Nat) : (n : Nat) → off + n ≤ 8 → BitVec (8 * n)
  | 0, _ => 0#0
  | n + 1, h => memRead buf off n (by omega) ++ buf[off + n]'(by omega)

/-- `MemWrite(buf, off, n, v)`: `buf[off+i] <- v[8(n-1-i)+7 : 8(n-1-i)]` for `i` = 0 to `n-1`, and no other byte changes
(R45). -/
def memWrite (buf : Buffer) (off n : Nat) (_h : off + n ≤ 8) (v : BitVec (8 * n)) : Buffer :=
  Vector.ofFn fun k : Fin 8 =>
    if off ≤ k.val ∧ k.val < off + n then v.extractLsb' (8 * (n - 1 - (k.val - off))) 8 else buf[k]

/-- `SERIALIZE(t, s, i, k)` of a Reading's four fields (R93). The buffer written into is immaterial: all 8 lanes are
overwritten (log entry 12). -/
def serialize (r : Reading) : Buffer :=
  let b0 : Buffer := Vector.replicate 8 0
  let b1 := memWrite b0 0 4 (by decide) r.timestamp
  let b2 := memWrite b1 4 2 (by decide) r.tempStatus
  let b3 := memWrite b2 6 1 (by decide) r.id
  memWrite b3 7 1 (by decide) r.checksum

/-- `DESERIALIZE(b)` (R111). -/
def deserialize (b : Buffer) : Reading where
  timestamp := memRead b 0 4 (by decide)
  tempStatus := memRead b 4 2 (by decide)
  id := memRead b 6 1 (by decide)
  checksum := memRead b 7 1 (by decide)

/-! ## The result registers -/

/-- What every command writes: `rsp_valid <- 1`, `rsp_op <- cmd_op` (R36). -/
def State.respond (s : State) (op : BitVec 2) : State :=
  { s with rspValid := 1, rspOp := op }

/-- ENCODE's register (R26). -/
def State.putPacket (s : State) (b : Buffer) : State :=
  { s with outBuf := b }

/-- DECODE's five registers, all at once (R26, R49). -/
def State.putDecoded (s : State) (r : Reading) (err : BitVec 2) : State :=
  { s with
    outTimestamp := r.timestamp, outTempStatus := r.tempStatus, outId := r.id, outChecksum := r.checksum
    outErr := err }

/-- VALIDATE's register (R26). -/
def State.putOk (s : State) (ok : BitVec 1) : State :=
  { s with outOk := ok }

/-- DESCRIBE's four registers, all at once (R26). -/
def State.putDisplay (s : State) (power : BitVec 1) (whole : BitVec 12) (tenths : BitVec 4) (validity : BitVec 1) : State :=
  { s with outPower := power, outWhole := whole, outTenths := tenths, outValidity := validity }

/-- `raise DecodeError(MalformedLength)`: `out_err <- 1` and the four field registers forced to 0 (R156). It is no trap:
nothing is saved, no control is transferred, and the step goes on to its end (R161). There is no return from it (R162). -/
def State.raiseMalformedLength (s : State) : State :=
  s.putDecoded Reading.zero Config.errMalformedLength

/-- The Reading the DECODE registers hold, which a requester may drive onto the `rd_*` ports (R74, R181). -/
def State.decoded (s : State) : Reading :=
  ⟨s.outTimestamp, s.outTempStatus, s.outId, s.outChecksum⟩

/-! ## The steps that run no command -/

/-- A reset step: every register takes its reset value (R36, R175). -/
def State.resetRegisters (s : State) : State :=
  { State.reset with inputs := s.inputs }

/-- An idle step: `rsp_valid <- 0`, every other register holds (R36). -/
def State.idleStep (s : State) : State :=
  { s with rspValid := 0 }

/-! ## The ports -/

/-- The requester presents the sample `p` at the next edge (log entry 1). -/
def State.present (s : State) (p : Ports) : State :=
  { s with inputs := p :: s.inputs }

/-- The sample at this edge: the oldest one presented; when the requester presents nothing more, an idle one (R185; log
entry 2). -/
def State.sampled (s : State) : Ports :=
  s.inputs.headD Ports.idle

/-- The state with this edge's sample taken. -/
def State.dropInput (s : State) : State :=
  { s with inputs := s.inputs.tail }

end Sys2Proof.Machine
end

