-- ==== Sys2Proof/Machine/Flags.lean ====
section
/-! DEFINITION. The checksum functions and the validity bit (42_checksum_engine.md R125 to R128; 43_describe.md R143). -/

namespace Sys2Proof.Machine

/-- `SUM8(b[0..n-1])`: the unsigned byte sum, taken exactly and then reduced modulo 256 (R125); the commands
use it with `n` = 7 and 8 (log entry 14). -/
def sum8 {n : Nat} (b : Vector Byte n) : Byte :=
  BitVec.ofNat 8 ((b.toList.map BitVec.toNat).sum % Config.sumMod)

/-- `NEG8(s) = (256 - s) mod 256` (R126). -/
def neg8 (s : Byte) : Byte :=
  BitVec.ofNat 8 ((Config.sumMod - s.toNat) % Config.sumMod)

/-- `CSUM_GEN(b[0..6]) = NEG8(SUM8(b[0..6]))` (R127). -/
def csumGen (b : Vector Byte 7) : Byte := neg8 (sum8 b)

/-- `CSUM_OK(b[0..7])`: all eight bytes are summed and the sum compared with zero (R128). -/
def csumOk (b : Buffer) : Bool := sum8 b == 0

/-- A Reading is valid iff its serialized form sums to 0 modulo 256 (10_state.md R21; R128). -/
def validReading (r : Reading) : Bool := csumOk (serialize r)

/-- The validity of a Reading as the 1-bit value that `out_ok` and `out_validity` hold (R129, R143). -/
def validityBit (r : Reading) : BitVec 1 := if validReading r then 1 else 0

end Sys2Proof.Machine
end

