-- ==== Sys2Proof/Machine/ChecksumEngine.lean ====
section
/-! DEFINITION. The CSE unit: command VALIDATE (42_checksum_engine.md R129). -/

namespace Sys2Proof.Machine

/-- VALIDATE (R129): `out_ok` is 1 iff the Reading operand is valid; an invalid Reading is no error. -/
def execValidate (r : Reading) (s : State) : Host.Outcome State Fault Refusal :=
  .next ((s.putOk (validityBit r)).respond Config.opValidate)

end Sys2Proof.Machine
end

