-- ==== Sys2Proof/Machine/Operands.lean ====
section
/-! DEFINITION. How operands become fields and fields become display values (30_encoding.md R72, R76): CLAMP, TRUNC8, PACK, LENCHK, UNPACK_POWER, UNPACK_TEMP, DIVMOD10. -/

namespace Sys2Proof.Machine

/-- `CLAMP(x)`: `x` read as a signed 32-bit value, bounded to the inclusive range 200 to 1200, silently (R90). The result is
an integer; `pack` narrows it. -/
def clamp (x : BitVec 32) : Nat :=
  if x.toInt < (Config.tempMin : Int) then Config.tempMin
  else if x.toInt > (Config.tempMax : Int) then Config.tempMax
  else x.toInt.toNat

/-- `TRUNC8(n)`: bits 7:0 of `n` (R91). -/
def trunc8 (n : BitVec 32) : Byte := n.extractLsb' 0 8

/-- `PACK(c, p) = (c & 0x7FFF) | (if p = 1 then 0x8000 else 0)` (R92). -/
def pack (c : Nat) (p : PowerStatus) : BitVec 16 :=
  (BitVec.ofNat 16 c &&& Config.tempMask) |||
    match p with
    | .battery => Config.powerBit
    | .network => 0

/-- `LENCHK(len)`: true iff `len = 8`, all 16 bits compared (R110). -/
def lenChk (len : BitVec 16) : Bool := len == BitVec.ofNat 16 Config.pktLen

/-- `UNPACK_POWER(s) = s[15]` (R140). -/
def unpackPower (s : BitVec 16) : BitVec 1 := s.extractLsb' 15 1

/-- `UNPACK_TEMP(s) = s[14:0]` (R141). -/
def unpackTemp (s : BitVec 16) : BitVec 15 := s.extractLsb' 0 15

/-- `DIVMOD10(m)`, its first result: `whole = floor(m / 10)`, 12 bits (R142). -/
def wholeDegrees (m : BitVec 15) : BitVec 12 := BitVec.ofNat 12 (m.toNat / 10)

/-- `DIVMOD10(m)`, its second result: `tenths = m - 10 * whole`, 4 bits (R142). -/
def tenthsDigit (m : BitVec 15) : BitVec 4 := BitVec.ofNat 4 (m.toNat - 10 * (m.toNat / 10))

end Sys2Proof.Machine
end

