-- ==== Sys2Proof/Machine/Describer.lean ====
section
/-! DEFINITION. The DSC unit: command DESCRIBE (43_describe.md R144). -/

namespace Sys2Proof.Machine

/-- DESCRIBE (R144): the power bit, whole degrees, tenths digit and validity of the Reading operand; it does not read
`out_ok` (R143). -/
def execDescribe (r : Reading) (s : State) : Host.Outcome State Fault Refusal :=
  .next ((s.putDisplay (unpackPower r.tempStatus) (wholeDegrees (unpackTemp r.tempStatus))
    (tenthsDigit (unpackTemp r.tempStatus)) (validityBit r)).respond Config.opDescribe)

end Sys2Proof.Machine
end

