-- ==== Sys2Proof/Machine/Deserializer.lean ====
section
/-! DEFINITION. The DES unit: command DECODE (41_deserializer.md R112). -/

namespace Sys2Proof.Machine

/-- DECODE (R112): the length check first; on success the four fields and `out_err = 0`, else the error of R156, which
looks at no lane. It checks nothing else (R114). -/
def execDecode (b : Buffer) (len : BitVec 16) (s : State) : Host.Outcome State Fault Refusal :=
  .next ((if lenChk len then s.putDecoded (deserialize b) Config.errNone else s.raiseMalformedLength).respond Config.opDecode)

end Sys2Proof.Machine
end

