-- ==== Sys2Proof/Machine/Serializer.lean ====
section
/-! DEFINITION. The SER unit: command ENCODE (40_serializer.md R95). -/

namespace Sys2Proof.Machine

/-- The seven bytes at offsets 0 to 6 that CSUM_GEN takes: `t[31:24], t[23:16], t[15:8], t[7:0], s[15:8], s[7:0], i` (R95). -/
def checksummedBytes (t : BitVec 32) (s : BitVec 16) (i : Byte) : Vector Byte 7 :=
  #v[t.extractLsb' 24 8, t.extractLsb' 16 8, t.extractLsb' 8 8, t.extractLsb' 0 8, s.extractLsb' 8 8, s.extractLsb' 0 8, i]

/-- The Reading ENCODE builds from its operands (R95). -/
def encodedReading (t x : BitVec 32) (p : PowerStatus) (n : BitVec 32) : Reading where
  timestamp := t
  tempStatus := pack (clamp x) p
  id := trunc8 n
  checksum := csumGen (checksummedBytes t (pack (clamp x) p) (trunc8 n))

/-- ENCODE (R95): writes `out_buf`, never fails. -/
def execEncode (t x : BitVec 32) (p : PowerStatus) (n : BitVec 32) (s : State) : Host.Outcome State Fault Refusal :=
  .next ((s.putPacket (serialize (encodedReading t x p n))).respond Config.opEncode)

end Sys2Proof.Machine
end

