-- ==== Sys2Proof/Machine/Dispatch.lean ====
section
/-! DEFINITION. One arm per command (30_encoding.md R68). -/

namespace Sys2Proof.Machine

def exec (i : Instr) (s : State) : Host.Outcome State Fault Refusal :=
  match i with
  | .encode t x p n => Sys2Proof.Machine.execEncode t x p n s
  | .decode b len => Sys2Proof.Machine.execDecode b len s
  | .validate r => Sys2Proof.Machine.execValidate r s
  | .describe r => Sys2Proof.Machine.execDescribe r s

end Sys2Proof.Machine
end

