-- ==== Sys2Proof/Machine/Edge.lean ====
section
/-! DEFINITION. One rising edge of `clk`: the step of 10_state.md R36 as a function of the port values and the registers. -/

namespace Sys2Proof.Machine

/-- The state after one edge, with `P` the values of the ports at the edge (R36): a reset step, an idle step or a command. -/
def edge (P : Ports) (s : State) : Host.Outcome State Fault Refusal :=
  match decode P with
  | .reset => .next s.resetRegisters
  | .idle => .next s.idleStep
  | .command i => exec i s

end Sys2Proof.Machine
end

