-- ==== Sys2Proof/Machine/Step.lean ====
section
/-! DEFINITION. One step: the edge (Machine/Edge.lean) at the oldest sample the requester presents. -/

namespace Sys2Proof.Machine

/-- One step of the block: one edge, at the sample presented for it (R36; log entries 1 and 2). -/
def step (s : State) : Host.Outcome State Fault Refusal :=
  edge s.sampled s.dropInput

/-- `s` with the command word `w` (bits above `nbits` 0) presented at the next edge, so that `step` samples exactly it
(log entry 4). -/
def State.withFetchWord (s : State) (nbits w : Nat) : State :=
  s.present (Ports.ofWord (BitVec.ofNat Ports.wordBits (w % 2 ^ nbits)))

end Sys2Proof.Machine
end

