-- ==== Sys2Proof/Machine/Instances.lean ====
section
/-! DEFINITION. `N_INSTANCES` independent copies of the block (20_memory.md R56; 60_exceptions.md R167): no shared state, port or signal. The number is an argument, default 1 (00_scope.md R8; log entry 6). -/

namespace Sys2Proof.Machine

/-- `n` instances of the block; they have no identifiers but their place. -/
abbrev Instances (n : Nat := Config.nInstances) := Vector State n

/-- One edge of instance `k`; the others stand (R56). -/
def Instances.stepAt {n : Nat} (v : Instances n) (k : Fin n) : Host.Outcome (Instances n) Fault Refusal :=
  match step v[k] with
  | .next s => .next (v.set k s)
  | .fault r => .fault r
  | .refused r => .refused r

end Sys2Proof.Machine
end

