-- ==== Sys2Proof/Machine/Requester.lean ====
section
/-! DEFINITION. The requester's two pseudo-commands EMIT and RECEIVE, each an expansion to commands (30_encoding.md R74). They are the requester's sequences: the block has no path from its result registers to its ports (log entry 7). -/

namespace Sys2Proof.Machine

/-- The requester presents one command, in printed form, and the block takes one step. -/
def runCommand (i : Instr) (s : State) : Host.Outcome State Fault Refusal :=
  step (s.present (encode i))

/-- One outcome and then, if it is a next state, another. -/
def andThen (o : Host.Outcome State Fault Refusal) (f : State → Host.Outcome State Fault Refusal) :
    Host.Outcome State Fault Refusal :=
  match o with
  | .next s => f s
  | .fault r => .fault r
  | .refused r => .refused r

/-- The requester's own counter after a send: `n <- (n + 1) mod 256` (R74). It is no state of the block (R35). -/
def nextId (n : BitVec 32) : BitVec 32 := BitVec.ofNat 32 ((n.toNat + 1) % 256)

/-- `EMIT t, temp, p, n` (R74): the ENCODE, and the counter the requester keeps. Handing `out_buf` to the transport and
sleeping are outside the block. -/
def emit (t x : BitVec 32) (p : PowerStatus) (n : BitVec 32) (s : State) : Host.Outcome State Fault Refusal × BitVec 32 :=
  (runCommand (.encode t x p n) s, nextId n)

/-- `RECEIVE b0..b7, len` (R74): DECODE, and if `out_err = 0` VALIDATE and DESCRIBE of the decoded fields, which the
requester wires to the `rd_*` ports. -/
def receive (b : Buffer) (len : BitVec 16) (s : State) : Host.Outcome State Fault Refusal :=
  andThen (runCommand (.decode b len) s) fun s1 =>
    if s1.outErr = Config.errNone then
      andThen (runCommand (.validate s1.decoded) s1) fun s2 => runCommand (.describe s2.decoded) s2
    else .next s1

/-- RECEIVE with the VALIDATE left out, which R74 allows. -/
def receiveWithoutValidate (b : Buffer) (len : BitVec 16) (s : State) : Host.Outcome State Fault Refusal :=
  andThen (runCommand (.decode b len) s) fun s1 =>
    if s1.outErr = Config.errNone then runCommand (.describe s1.decoded) s1 else .next s1

end Sys2Proof.Machine
end

