-- ==== Sys2Proof/Machine/Text.lean ====
section
/-! DEFINITION. The text notation of steps (30_encoding.md R73): a reader and a printer on lists of characters. What R73 leaves open of it (spacing, letter case of operands, leading zeros) is log entry 8. -/

namespace Sys2Proof.Text

/-- A finished token in front of the rest; an empty one is dropped. -/
def flush (token : List Char) (rest : List (List Char)) : List (List Char) :=
  if token.isEmpty then rest else token :: rest

/-- Tokens: spaces separate, a comma is a token of its own; `token` is the one being read. -/
def tokens : List Char → List Char → List (List Char)
  | [], token => flush token []
  | c :: cs, token =>
    if c = ' ' then flush token (tokens cs [])
    else if c = ',' then flush token ([','] :: tokens cs [])
    else tokens cs (token ++ [c])

/-- The value of a hexadecimal digit, either case. -/
def digitValue (c : Char) : Option Nat :=
  let n := c.toNat
  if 48 ≤ n ∧ n ≤ 57 then some (n - 48)
  else if 65 ≤ n ∧ n ≤ 70 then some (n - 55)
  else if 97 ≤ n ∧ n ≤ 102 then some (n - 87)
  else none

/-- Digits of a base, most significant first, on top of `acc`. -/
def readDigits (base : Nat) : List Char → Nat → Option Nat
  | [], acc => some acc
  | c :: cs, acc =>
    match digitValue c with
    | some d => if d < base then readDigits base cs (acc * base + d) else none
    | none => none

/-- A decimal number of at least one digit. -/
def readDecimal : List Char → Option Nat
  | [] => none
  | c :: cs => readDigits 10 (c :: cs) 0

/-- A value of `w` bits if the number fits. -/
def fits (w : Nat) (n : Option Nat) : Option (BitVec w) :=
  match n with
  | some n => if n < 2 ^ w then some (BitVec.ofNat w n) else none
  | none => none

/-- A decimal or `0x` hexadecimal number of up to `w` bits (R73: `<id>`; the fields of a Reading but the timestamp). -/
def readUnsigned (w : Nat) : List Char → Option (BitVec w)
  | '0' :: 'x' :: c :: cs => fits w (readDigits 16 (c :: cs) 0)
  | cs => fits w (readDecimal cs)

/-- A signed decimal or `0x` hexadecimal 32-bit value (R73: `<timestamp>`, `<temp>`). -/
def readSigned : List Char → Option (BitVec 32)
  | '-' :: cs =>
    match readDecimal cs with
    | some n => if n ≤ 2 ^ 31 then some (BitVec.ofInt 32 (-(n : Int))) else none
    | none => none
  | '0' :: 'x' :: c :: cs => fits 32 (readDigits 16 (c :: cs) 0)
  | cs =>
    match readDecimal cs with
    | some n => if n < 2 ^ 31 then some (BitVec.ofNat 32 n) else none
    | none => none

/-- A two-digit hexadecimal byte (R73: `<b0>` to `<b7>`). -/
def readByte : List Char → Option Byte
  | [c, d] => fits 8 (readDigits 16 [c, d] 0)
  | _ => none

/-- `NETWORK` or `BATTERY` (R73). -/
def readPower (cs : List Char) : Option PowerStatus :=
  if cs = "NETWORK".toList then some .network
  else if cs = "BATTERY".toList then some .battery
  else none

/-- The operands of ENCODE (R73). -/
def readEncode : List (List Char) → Option Instr
  | [t, [','], x, [','], p, [','], n] =>
    match readSigned t, readSigned x, readPower p, readUnsigned 32 n with
    | some t, some x, some p, some n => some (.encode t x p n)
    | _, _, _, _ => none
  | _ => none

/-- Bytes written one after another, until a token that is no byte. -/
def readBytes : List (List Char) → Option (List Byte)
  | [] => some []
  | c :: cs =>
    match readByte c, readBytes cs with
    | some b, some bs => some (b :: bs)
    | _, _ => none

/-- The operands of DECODE (R73): eight bytes, offset 0 first, and a decimal length. -/
def readDecode : List (List Char) → Option Instr
  | [b0, b1, b2, b3, b4, b5, b6, b7, [','], len] =>
    match readBytes [b0, b1, b2, b3, b4, b5, b6, b7], fits 16 (readDecimal len) with
    | some [c0, c1, c2, c3, c4, c5, c6, c7], some len => some (.decode #v[c0, c1, c2, c3, c4, c5, c6, c7] len)
    | _, _ => none
  | _ => none

/-- The operands of VALIDATE and DESCRIBE (R73). -/
def readReading : List (List Char) → Option Reading
  | [t, [','], s, [','], i, [','], k] =>
    match readSigned t, readUnsigned 16 s, readUnsigned 8 i, readUnsigned 8 k with
    | some t, some s, some i, some k => some ⟨t, s, i, k⟩
    | _, _, _, _ => none
  | _ => none

/-- One line of text as a step: a command, IDLE or RESET; mnemonics in any letter case (R73). -/
def read (line : List Char) : Option StepEvent :=
  match tokens line [] with
  | [] => none
  | m :: args =>
    let m := m.map Char.toUpper
    if m = "RESET".toList then (if args = [] then some .reset else none)
    else if m = "IDLE".toList then (if args = [] then some .idle else none)
    else if m = "ENCODE".toList then (readEncode args).map .command
    else if m = "DECODE".toList then (readDecode args).map .command
    else if m = "VALIDATE".toList then (readReading args).map fun r => .command (.validate r)
    else if m = "DESCRIBE".toList then (readReading args).map fun r => .command (.describe r)
    else none

/-- A digit 0 to 15 as a character. -/
def digitChar (d : Nat) : Char := if d < 10 then Char.ofNat (48 + d) else Char.ofNat (55 + d)

/-- The last `k` hexadecimal digits of a number. -/
def hexChars : Nat → Nat → List Char
  | 0, _ => []
  | k + 1, n => hexChars k (n / 16) ++ [digitChar (n % 16)]

/-- A number in decimal without leading zeros, at most `k + 1` digits. -/
def decChars : Nat → Nat → List Char
  | 0, n => [digitChar (n % 10)]
  | k + 1, n => if n < 10 then [digitChar n] else decChars k (n / 10) ++ [digitChar (n % 10)]

/-- A hexadecimal number with its `0x`. -/
def hexWord (digits n : Nat) : List Char := '0' :: 'x' :: hexChars digits n

/-- A signed decimal 32-bit value. -/
def signedChars (v : BitVec 32) : List Char :=
  if v.toInt < 0 then '-' :: decChars 9 v.toInt.natAbs else decChars 9 v.toNat

/-- A power status as R73 writes it. -/
def powerChars : PowerStatus → List Char
  | .network => "NETWORK".toList
  | .battery => "BATTERY".toList

/-- Between operands. -/
def comma : List Char := [',', ' ']

/-- The operands of VALIDATE and DESCRIBE, in hexadecimal at the width of each field. -/
def readingChars (r : Reading) : List Char :=
  hexWord 8 r.timestamp.toNat ++ comma ++ hexWord 4 r.tempStatus.toNat ++ comma ++ hexWord 2 r.id.toNat ++ comma
    ++ hexWord 2 r.checksum.toNat

/-- A command in the notation of R73. -/
def printCommand : Instr → List Char
  | .encode t x p n =>
    "ENCODE ".toList ++ signedChars t ++ comma ++ signedChars x ++ comma ++ powerChars p ++ comma ++ decChars 9 n.toNat
  | .decode b len =>
    "DECODE ".toList ++ hexChars 2 b[0].toNat ++ [' '] ++ hexChars 2 b[1].toNat ++ [' '] ++ hexChars 2 b[2].toNat ++ [' ']
      ++ hexChars 2 b[3].toNat ++ [' '] ++ hexChars 2 b[4].toNat ++ [' '] ++ hexChars 2 b[5].toNat ++ [' ']
      ++ hexChars 2 b[6].toNat ++ [' '] ++ hexChars 2 b[7].toNat ++ comma ++ decChars 9 len.toNat
  | .validate r => "VALIDATE ".toList ++ readingChars r
  | .describe r => "DESCRIBE ".toList ++ readingChars r

/-- A step in the notation of R73. -/
def print : StepEvent → List Char
  | .reset => "RESET".toList
  | .idle => "IDLE".toList
  | .command i => printCommand i

end Sys2Proof.Text
end

