-- ==== Sys2Proof/Safety.lean ====
section
/-! DEFINITION. What counts as a safe state and a safe run, in the terms the statements use. -/

namespace Sys2Proof.Safety

open Sys2Proof.Machine

/-- `out_err` holds one of its two defined codes: 2 and 3 are "never produced" (60_exceptions.md R157). -/
abbrev ErrCodeDefined (s : State) : Prop := s.outErr.toNat ≤ 1

/-- After a failed DECODE the four field registers are 0 (41_deserializer.md R112; 60_exceptions.md R156). -/
abbrev FailedDecodeZeroed (s : State) : Prop :=
  s.outErr = 1 → s.outTimestamp = 0 ∧ s.outTempStatus = 0 ∧ s.outId = 0 ∧ s.outChecksum = 0

/-- The display registers together hold a 15-bit temperature: whole degrees 0 to 3276 and a tenths digit 0 to 9
(10_state.md R26; 43_describe.md R142). -/
abbrev DisplayInRange (s : State) : Prop :=
  s.outTenths.toNat ≤ 9 ∧ 10 * s.outWhole.toNat + s.outTenths.toNat ≤ 32767

/-- `out_buf` is the reset buffer or a packet with a temperature field of 200 to 1200, and in either case its eight bytes sum
to 0 modulo 256 (40_serializer.md R97, R98). -/
abbrev PacketSound (s : State) : Prop :=
  (s.outBuf.toList.map BitVec.toNat).sum % 256 = 0 ∧
    (s.outBuf = Vector.replicate 8 0 ∨
      200 ≤ (s.outBuf[4].toNat % 128) * 256 + s.outBuf[5].toNat ∧
        (s.outBuf[4].toNat % 128) * 256 + s.outBuf[5].toNat ≤ 1200)

/-- The invariant of the result registers: it holds at reset and every step keeps it. The register widths alone do not give
it: a state that no run reaches can break each part. -/
abbrev RegisterInv (s : State) : Prop :=
  ErrCodeDefined s ∧ FailedDecodeZeroed s ∧ DisplayInRange s ∧ PacketSound s

/-- A safe run of `k` steps: it ends in a next state, never in a fault or a refusal (60_exceptions.md R170). -/
abbrev RunsSafely (k : Nat) (s : State) : Prop :=
  ∃ t, Host.Core.run Sys2Proof.core k s = .next t

/-- The DECODE registers may be used as a Reading: the requester must check `out_err` first (70_reset_and_hazards.md R181,
hazard 3). -/
abbrev DecodeUsable (s : State) : Prop := s.outErr = 0

end Sys2Proof.Safety
end

