-- ==== Sys2Proof/Certificates/Slice0/Obligations.lean ====
section
/-! DEFINITION. The statements about the model, each with the rule of the spec it formalises.

`edge p s` is the step of 10_state.md R36 as a function of the port values `p` and the state `s`. `step` takes `p` from the
queue of samples that is the model's way of holding the input ports (log entry 1); StepRunsSampledCommand ties the two. -/

open Sys2Proof Sys2Proof.Machine Sys2Proof.Safety

/-! ## Encoding -/

/-- Decoding the word of a command gives the command back, every operand at every value. The word drawing of the ports is
the model's own (log entry 3). -/
def Obligations.CommandWordRoundTrip : Prop :=
  ∀ i : Instr, decodeWord (encodeWord i) = some i

/-- A canonical word (R69: unnamed ports zero) is the word of the command it decodes to: no bit of it is dropped. The word
drawing is the model's own (log entry 3). -/
def Obligations.CanonicalWordRoundTrip : Prop :=
  ∀ (w : BitVec Ports.wordBits) (i : Instr),
    (Ports.ofWord w).wellFormed = true → decodeWord w = some i → encodeWord i = w

/-- Samples written out port by port from the encodings of the spec's programs 1 to 3 (95_test_vectors.md section 3) decode
to the commands they stand for. -/
def Obligations.ProgramSamplesDecode : Prop :=
  decode ⟨0, 1, 0b00, 0x6553F10A, 0x000004E2, 1, 0x00000100, Vector.replicate 8 0, 0, 0, 0, 0, 0⟩ =
      .command (.encode 1700000010 1250 .battery 256) ∧
    decode ⟨0, 1, 0b01, 0, 0, 0, 0, Buffer.ofBits 0x6553F10080EB07E5, 0x0008, 0, 0, 0, 0⟩ =
      .command (.decode #v[0x65, 0x53, 0xF1, 0x00, 0x80, 0xEB, 0x07, 0xE5] 8) ∧
    decode ⟨0, 1, 0b10, 0, 0, 0, 0, Vector.replicate 8 0, 0, 0x6553F100, 0x80EB, 0x07, 0xE5⟩ =
      .command (.validate ⟨0x6553F100, 0x80EB, 0x07, 0xE5⟩) ∧
    decode ⟨0, 1, 0b11, 0, 0, 0, 0, Vector.replicate 8 0, 0, 0x6553F100, 0x80EA, 0x07, 0xE5⟩ =
      .command (.describe ⟨0x6553F100, 0x80EA, 0x07, 0xE5⟩) ∧
    decode ⟨0, 0, 0, 0, 0, 0, 0, Vector.replicate 8 0, 0, 0, 0, 0, 0⟩ = .idle ∧
    decode ⟨1, 1, 0b00, 0, 0x000004B0, 1, 0x00000009, Vector.replicate 8 0, 0, 0, 0, 0, 0⟩ = .reset

/-- R68: the opcode map. With a command presented, `cmd_op` alone selects which of the four commands it is, and the operands
are the ports of its format. -/
def Obligations.OpcodeSelectsCommand : Prop :=
  ∀ p : Ports, p.rst = 0 → p.cmdValid = 1 →
    (p.cmdOp = 0b00 →
      decode p =
        .command (.encode p.inTimestamp p.inTemp (if p.inPower = 1 then .battery else .network) p.inId)) ∧
    (p.cmdOp = 0b01 → decode p = .command (.decode p.inBuf p.inLen)) ∧
    (p.cmdOp = 0b10 →
      decode p = .command (.validate ⟨p.rdTimestamp, p.rdTempStatus, p.rdId, p.rdChecksum⟩)) ∧
    (p.cmdOp = 0b11 →
      decode p = .command (.describe ⟨p.rdTimestamp, p.rdTempStatus, p.rdId, p.rdChecksum⟩))

/-- R69: ports a command does not name change nothing of the step; with `cmd_valid = 0` every operand port and `cmd_op` are
ignored; a printed command has its unnamed ports zero. -/
def Obligations.UnnamedPortsChangeNothing : Prop :=
  (∀ (s : State) (p q : Ports), p.rst = q.rst → p.cmdValid = q.cmdValid →
    (p.rst = 0 → p.cmdValid = 1 →
      p.cmdOp = q.cmdOp ∧
      (p.cmdOp = 0b00 →
        p.inTimestamp = q.inTimestamp ∧ p.inTemp = q.inTemp ∧ p.inPower = q.inPower ∧ p.inId = q.inId) ∧
      (p.cmdOp = 0b01 → p.inBuf = q.inBuf ∧ p.inLen = q.inLen) ∧
      (p.cmdOp = 0b10 ∨ p.cmdOp = 0b11 →
        p.rdTimestamp = q.rdTimestamp ∧ p.rdTempStatus = q.rdTempStatus ∧ p.rdId = q.rdId ∧
          p.rdChecksum = q.rdChecksum)) →
    edge p s = edge q s) ∧
  ∀ i : Instr,
    ((encode i).cmdOp ≠ 0b00 →
      (encode i).inTimestamp = 0 ∧ (encode i).inTemp = 0 ∧ (encode i).inPower = 0 ∧ (encode i).inId = 0) ∧
    ((encode i).cmdOp ≠ 0b01 → (encode i).inBuf = Vector.replicate 8 0 ∧ (encode i).inLen = 0) ∧
    ((encode i).cmdOp = 0b00 ∨ (encode i).cmdOp = 0b01 →
      (encode i).rdTimestamp = 0 ∧ (encode i).rdTempStatus = 0 ∧ (encode i).rdId = 0 ∧ (encode i).rdChecksum = 0)

/-- Every step in the text notation reads back as itself: the numbers, bytes and names of 30_encoding.md section 5, in the
spelling the printer chooses (log entry 8). -/
def Obligations.TextNotationRoundTrip : Prop :=
  ∀ e : StepEvent, Text.read (Text.print e) = some e

/-! ## The step -/

/-- A sample presented to any state is the one the next step runs its edge at, and nothing else of the state changes; when the
sample at this edge is a command, the step is that command's meaning on the state with the sample taken. The queue of samples
is the model's own (log entry 1). -/
def Obligations.StepRunsSampledCommand : Prop :=
  (∀ (s : State) (p : Ports), step (s.present p) = edge p s) ∧
  ∀ (s : State) (i : Instr), decode s.sampled = .command i → step s = exec i s.dropInput

/-- R36: one step, whatever the registers hold and whatever is presented. `rst` wins; a command writes `rsp_valid`, `rsp_op`
and its own registers and every other register holds; an idle step clears `rsp_valid` and every other register holds. -/
def Obligations.StepFollowsRuleOfOneEdge : Prop :=
  ∀ (s : State) (p : Ports), ∃ t, edge p s = .next t ∧
    (p.rst = 1 → t = { State.reset with inputs := s.inputs }) ∧
    (p.rst = 0 → p.cmdValid = 0 → t = { s with rspValid := 0 }) ∧
    (p.rst = 0 → p.cmdValid = 1 → p.cmdOp = 0b00 →
      exec (.encode p.inTimestamp p.inTemp (.ofBit p.inPower) p.inId) s = .next t ∧
        t = { s with rspValid := 1, rspOp := 0b00, outBuf := t.outBuf }) ∧
    (p.rst = 0 → p.cmdValid = 1 → p.cmdOp = 0b01 →
      exec (.decode p.inBuf p.inLen) s = .next t ∧
        t = { s with
              rspValid := 1, rspOp := 0b01, outTimestamp := t.outTimestamp, outTempStatus := t.outTempStatus
              outId := t.outId, outChecksum := t.outChecksum, outErr := t.outErr }) ∧
    (p.rst = 0 → p.cmdValid = 1 → p.cmdOp = 0b10 →
      exec (.validate p.rdReading) s = .next t ∧
        t = { s with rspValid := 1, rspOp := 0b10, outOk := t.outOk }) ∧
    (p.rst = 0 → p.cmdValid = 1 → p.cmdOp = 0b11 →
      exec (.describe p.rdReading) s = .next t ∧
        t = { s with
              rspValid := 1, rspOp := 0b11, outPower := t.outPower, outWhole := t.outWhole
              outTenths := t.outTenths, outValidity := t.outValidity })

/-- With nothing presented the step is an idle one. That an empty queue means an idle requester is the model's choice (log
entry 2). -/
def Obligations.NothingPresentedIdles : Prop :=
  ∀ s : State, s.inputs = [] → step s = .next { s with rspValid := 0 }

/-- R175, R176: a step with `rst = 1` puts 0 in every register, whatever the registers held and whatever command is
presented with it, and the block runs the command presented in the next step. -/
def Obligations.ResetStepClearsEveryRegister : Prop :=
  ∀ (s : State) (p : Ports), p.rst = 1 → ∃ t, edge p s = .next t ∧
    t.rspValid = 0 ∧ t.rspOp = 0 ∧ (∀ k : Fin 8, t.outBuf[k] = 0) ∧ t.outTimestamp = 0 ∧ t.outTempStatus = 0 ∧
    t.outId = 0 ∧ t.outChecksum = 0 ∧ t.outErr = 0 ∧ t.outOk = 0 ∧ t.outPower = 0 ∧ t.outWhole = 0 ∧ t.outTenths = 0 ∧
    t.outValidity = 0 ∧ t.inputs = s.inputs ∧
    ∀ (q : Ports) (i : Instr), decode q = .command i → edge q t = exec i t

/-- R28: after reset every register of R26 holds zero. -/
def Obligations.ResetValuesAreZero : Prop :=
  State.reset.rspValid = 0 ∧ State.reset.rspOp = 0 ∧ (∀ k : Fin 8, State.reset.outBuf[k] = 0) ∧
    State.reset.outTimestamp = 0 ∧ State.reset.outTempStatus = 0 ∧ State.reset.outId = 0 ∧
    State.reset.outChecksum = 0 ∧ State.reset.outErr = 0 ∧ State.reset.outOk = 0 ∧ State.reset.outPower = 0 ∧
    State.reset.outWhole = 0 ∧ State.reset.outTenths = 0 ∧ State.reset.outValidity = 0

/-- The register invariant holds at reset. -/
def Obligations.ResetMeetsRegisterBounds : Prop :=
  RegisterInv State.reset

/-- Every step keeps the register invariant: `out_err` stays a defined code, a failed DECODE's fields stay zero until the
next DECODE or reset, the display registers stay a 15-bit temperature, and `out_buf` stays the reset buffer or a packet that
sums to 0 with its temperature in 200 to 1200. -/
def Obligations.StepKeepsRegisterBounds : Prop :=
  ∀ s t : State, RegisterInv s → step s = .next t → RegisterInv t

/-- Any number of steps from any state ends in a next state: no fault, no refusal, no stuck state. The spec marks its
sentence "The block never faults in the sense of stopping" as derived. -/
def Obligations.EveryRunGoesOn : Prop :=
  ∀ (k : Nat) (s : State), RunsSafely k s

/-! ## Buffer access -/

/-- MemRead is big-endian, the byte at the lowest offset most significant; MemWrite puts byte `i` of the value at offset
`off + i` and changes no other byte; and reading back what was written gives the value. Derived from 20_memory.md section 2,
which gives both operations for sizes 1, 2 and 4 within the buffer and states no read-back law: the other sizes within the
buffer are the model's (log entry 12, DEDUCED), and the read-back clause is inferred from the two operations. -/
def Obligations.BufferReadAfterWrite : Prop :=
  ∀ (b : Buffer) (off n : Nat) (h : off + n ≤ 8) (v : BitVec (8 * n)),
    (∀ (i : Nat) (hi : i < n), (memWrite b off n h v)[off + i]'(by omega) = v.extractLsb' (8 * (n - 1 - i)) 8) ∧
    (∀ (k : Nat) (hk : k < 8), k < off ∨ off + n ≤ k → (memWrite b off n h v)[k] = b[k]) ∧
    (∀ (i : Nat) (hi : i < n), (memRead b off n h).extractLsb' (8 * (n - 1 - i)) 8 = b[off + i]'(by omega)) ∧
    memRead (memWrite b off n h v) off n h = v

/-- The 64-bit drawing of a buffer: lane `k` is bits `63-8k : 56-8k`, the drawing loses nothing, and the vector of a
serialized Reading is `{timestamp, temp_status, id, checksum}`. The spec marks these as its decision and as derived. -/
def Obligations.BufferDrawnAsVector : Prop :=
  (∀ (b : Buffer) (k : Fin 8), (Buffer.toBits b).extractLsb' (56 - 8 * k.val) 8 = b[k]) ∧
  (∀ b : Buffer, Buffer.ofBits (Buffer.toBits b) = b) ∧
  (∀ v : BitVec 64, Buffer.toBits (Buffer.ofBits v) = v) ∧
  ∀ r : Reading, Buffer.toBits (serialize r) = r.timestamp ++ r.tempStatus ++ r.id ++ r.checksum

/-- R93, R111: SERIALIZE puts each byte of each field at its offset, DESERIALIZE reads the fields back big-endian, each is the
other's inverse, and so SERIALIZE is a bijection between Readings and buffers; with the rules' example. -/
def Obligations.SerializeIsBijection : Prop :=
  (∀ r : Reading, (serialize r).toList =
    [r.timestamp.extractLsb' 24 8, r.timestamp.extractLsb' 16 8, r.timestamp.extractLsb' 8 8,
      r.timestamp.extractLsb' 0 8, r.tempStatus.extractLsb' 8 8, r.tempStatus.extractLsb' 0 8, r.id, r.checksum]) ∧
  (∀ b : Buffer,
    (deserialize b).timestamp = b[0] ++ b[1] ++ b[2] ++ b[3] ∧ (deserialize b).tempStatus = b[4] ++ b[5] ∧
      (deserialize b).id = b[6] ∧ (deserialize b).checksum = b[7]) ∧
  (∀ r : Reading, deserialize (serialize r) = r) ∧
  (∀ b : Buffer, serialize (deserialize b) = b) ∧
  Function.Bijective serialize ∧
  serialize ⟨0x01020304, 0x0305, 0x06, 0xE8⟩ = #v[0x01, 0x02, 0x03, 0x04, 0x03, 0x05, 0x06, 0xE8]

/-! ## SER -/

/-- R90: CLAMP saturates at both bounds, both inclusive, on the signed reading of its operand; with the rule's corner
cases. -/
def Obligations.ClampSaturatesAtBothBounds : Prop :=
  (∀ x : BitVec 32,
    (x.toInt < 200 → clamp x = 200) ∧ (1200 < x.toInt → clamp x = 1200) ∧
      (200 ≤ x.toInt → x.toInt ≤ 1200 → (clamp x : Int) = x.toInt) ∧ 200 ≤ clamp x ∧ clamp x ≤ 1200) ∧
  clamp 199 = 200 ∧ clamp 200 = 200 ∧ clamp 201 = 201 ∧ clamp 1199 = 1199 ∧ clamp 1200 = 1200 ∧ clamp 1201 = 1200 ∧
  clamp 0 = 200 ∧ clamp 0xFFFFFFFF = 200 ∧ clamp 0x80000000 = 200 ∧ clamp 0x7FFFFFFF = 1200 ∧ clamp 50 = 200 ∧
  clamp 5000 = 1200

/-- R91: TRUNC8 keeps bits 7:0, wraps at 256 and ignores bits 31:8; with the rule's corner cases. -/
def Obligations.TruncationKeepsLowByte : Prop :=
  (∀ n : BitVec 32, trunc8 n = n.extractLsb' 0 8 ∧ (trunc8 n).toNat = n.toNat % 256) ∧
  (∀ m n : BitVec 32, m.extractLsb' 0 8 = n.extractLsb' 0 8 → trunc8 m = trunc8 n) ∧
  trunc8 255 = 255 ∧ trunc8 256 = 0 ∧ trunc8 257 = 1 ∧ trunc8 0xFFFFFFFF = 255

/-- PACK is the masked temperature with the flag in bit 15, that is `{p, c[14:0]}`; on a clamped temperature the mask
removes no bit and bits 14:11 are 0; with the spec's examples. Derived from 40_serializer.md section 1: the spec gives the
formula and marks as derived its sentence "because `c <= 1200 < 32768`, the mask `& 0x7FFF` never removes a set bit, so bits
14:0 of the result equal `c` exactly and bits 14:11 are 0". -/
def Obligations.PackPutsFlagInBitFifteen : Prop :=
  (∀ (c : Nat) (p : PowerStatus),
    pack c p = ((BitVec.ofNat 16 c &&& 0x7FFF) ||| if p = .battery then 0x8000 else 0x0000) ∧
      pack c p = p.toBit ++ BitVec.ofNat 15 c ∧
      (200 ≤ c → c ≤ 1200 → (pack c p).toNat % 32768 = c ∧ (pack c p).extractLsb' 11 4 = 0)) ∧
  pack 200 .network = 0x00C8 ∧ pack 200 .battery = 0x80C8 ∧ pack 1200 .network = 0x04B0 ∧ pack 1200 .battery = 0x84B0

/-- R95: ENCODE completes for every operand, writes the eight lanes of `out_buf` as the rule gives them, and leaves every
other register but `rsp_valid` and `rsp_op` alone. -/
def Obligations.EncodeWritesPacket : Prop :=
  ∀ (t x : BitVec 32) (p : PowerStatus) (n : BitVec 32) (s : State), ∃ b : Buffer,
    exec (.encode t x p n) s = .next { s with rspValid := 1, rspOp := 0b00, outBuf := b } ∧
    b[0] = t.extractLsb' 24 8 ∧ b[1] = t.extractLsb' 16 8 ∧ b[2] = t.extractLsb' 8 8 ∧ b[3] = t.extractLsb' 0 8 ∧
    ((256 * b[4].toNat + b[5].toNat : Nat) : Int) =
      (if x.toInt < 200 then 200 else if 1200 < x.toInt then 1200 else x.toInt) + (if p = .battery then 0x8000 else 0) ∧
    b[6].toNat = n.toNat % 256 ∧
    b[7].toNat =
      (256 - (b[0].toNat + b[1].toNat + b[2].toNat + b[3].toNat + b[4].toNat + b[5].toNat + b[6].toNat) % 256) % 256

/-- ENCODE loses information in exactly two ways: two ENCODEs write the same packet iff they agree on the timestamp, the
clamped temperature, the power status and the id modulo 256. The spec marks its sentence "ENCODE loses information in exactly
three ways, all silent" as derived (it then names these two "and nothing else"). -/
def Obligations.EncodeLosesOnlyClampAndTruncation : Prop :=
  ∀ (t x : BitVec 32) (p : PowerStatus) (n t' x' : BitVec 32) (p' : PowerStatus) (n' : BitVec 32) (s : State),
    exec (.encode t x p n) s = exec (.encode t' x' p' n') s ↔
      t = t' ∧ max 200 (min x.toInt 1200) = max 200 (min x'.toInt 1200) ∧ p = p' ∧ n.toNat % 256 = n'.toNat % 256

/-- Every packet ENCODE writes has its temperature field in 200 to 1200, so bits 6:3 of the byte at offset 4 are 0 and the
packet is never the all-zero buffer of reset. The spec marks these sentences as derived. -/
def Obligations.EncodedTemperatureInRange : Prop :=
  ∀ (t x : BitVec 32) (p : PowerStatus) (n : BitVec 32) (s s' : State), exec (.encode t x p n) s = .next s' →
    s'.outBuf[4].extractLsb' 3 4 = 0 ∧
    200 ≤ (256 * s'.outBuf[4].toNat + s'.outBuf[5].toNat) % 32768 ∧
    (256 * s'.outBuf[4].toNat + s'.outBuf[5].toNat) % 32768 ≤ 1200 ∧ s'.outBuf ≠ Vector.replicate 8 0

/-- Every packet ENCODE writes is valid: VALIDATE of its fields, run next, writes `out_ok = 1`. The source's property is "For
all Readings produced by `encode`, `validate` returns true"; the spec marks its rule as derived. -/
def Obligations.EncodedPacketValidates : Prop :=
  ∀ (t x : BitVec 32) (p : PowerStatus) (n : BitVec 32) (s : State), ∃ s1 s2,
    exec (.encode t x p n) s = .next s1 ∧ exec (.validate (deserialize s1.outBuf)) s1 = .next s2 ∧ s2.outOk = 1 ∧
      s2.outBuf = s1.outBuf

/-! ## DES -/

/-- R110, R112: DECODE completes for every buffer and length. With `in_len = 8` it writes the four fields big-endian and
`out_err = 0`; with any other length `out_err = 1` and zeros, which no lane influences. Every other register but `rsp_valid`
and `rsp_op` holds. -/
def Obligations.DecodeWritesFieldsOrError : Prop :=
  (∀ len : BitVec 16, lenChk len = true ↔ len.toNat = 8) ∧
  ∀ (b : Buffer) (len : BitVec 16) (s : State),
    (len.toNat = 8 →
      exec (.decode b len) s = .next { s with
        rspValid := 1, rspOp := 0b01, outTimestamp := b[0] ++ b[1] ++ b[2] ++ b[3], outTempStatus := b[4] ++ b[5]
        outId := b[6], outChecksum := b[7], outErr := 0 }) ∧
    (len.toNat ≠ 8 →
      exec (.decode b len) s = .next { s with
        rspValid := 1, rspOp := 0b01, outTimestamp := 0, outTempStatus := 0, outId := 0, outChecksum := 0
        outErr := 1 })

/-- R117's law (marked as derived; the source states it as a testable property): DECODE of the packet ENCODE wrote gives back
the timestamp, the clamped temperature, the power status and the id modulo 256, with the checksum ENCODE computed. -/
def Obligations.EncodeDecodeRoundTrip : Prop :=
  ∀ (t x : BitVec 32) (p : PowerStatus) (n : BitVec 32) (s : State), ∃ s1 s2,
    exec (.encode t x p n) s = .next s1 ∧ exec (.decode s1.outBuf 8) s1 = .next s2 ∧
    s2.outErr = 0 ∧ s2.outTimestamp = t ∧
    ((s2.outTempStatus.toNat % 32768 : Nat) : Int) = max 200 (min x.toInt 1200) ∧
    s2.outTempStatus.extractLsb' 15 1 = (if p = .battery then 1 else 0) ∧ s2.outId.toNat = n.toNat % 256 ∧
    s2.outChecksum = s1.outBuf[7]

/-- Decoding loses nothing: SERIALIZE of the four registers a successful DECODE wrote gives the buffer back. The spec marks
the rule as derived. -/
def Obligations.DecodeLosesNothing : Prop :=
  ∀ (b : Buffer) (s : State), ∃ t, exec (.decode b 8) s = .next t ∧
    serialize ⟨t.outTimestamp, t.outTempStatus, t.outId, t.outChecksum⟩ = b

/-- R156: the error is raised by a DECODE whose `in_len` is not 8 and by nothing else; it records code 1 and forces the four
field registers to 0. -/
def Obligations.MalformedLengthOnlyFromDecode : Prop :=
  ∀ (s t : State) (p : Ports), edge p s = .next t →
    (s.outErr ≠ 1 → t.outErr = 1 → p.rst = 0 ∧ p.cmdValid = 1 ∧ p.cmdOp = 0b01 ∧ p.inLen ≠ 8) ∧
    (p.rst = 0 → p.cmdValid = 1 → p.cmdOp = 0b01 → p.inLen ≠ 8 →
      t = { s with
            rspValid := 1, rspOp := 0b01, outErr := 1, outTimestamp := 0, outTempStatus := 0, outId := 0
            outChecksum := 0 })

/-- R162: `out_err` keeps its value until the next DECODE or reset: a successful DECODE writes 0, a failed one 1, reset 0, and
every other step leaves it. -/
def Obligations.ErrorHeldUntilDecodeOrReset : Prop :=
  ∀ (s t : State) (p : Ports), edge p s = .next t →
    (p.rst = 1 → t.outErr = 0) ∧
    (p.rst = 0 → p.cmdValid = 1 → p.cmdOp = 0b01 → p.inLen = 8 → t.outErr = 0) ∧
    (p.rst = 0 → p.cmdValid = 1 → p.cmdOp = 0b01 → p.inLen ≠ 8 → t.outErr = 1) ∧
    (p.rst = 0 → ¬(p.cmdValid = 1 ∧ p.cmdOp = 0b01) → t.outErr = s.outErr)

/-- The hazard of the zero fields (70_reset_and_hazards.md section 3, hazard 3): after a failed DECODE, VALIDATE of the DECODE
registers reports "valid" while `out_err = 1` still stands. -/
def Obligations.FailedDecodeFieldsValidate : Prop :=
  ∀ (b : Buffer) (len : BitVec 16) (s : State), len ≠ 8 → ∃ s1 s2,
    exec (.decode b len) s = .next s1 ∧ ¬ DecodeUsable s1 ∧
    exec (.validate ⟨s1.outTimestamp, s1.outTempStatus, s1.outId, s1.outChecksum⟩) s1 = .next s2 ∧ s2.outOk = 1 ∧
    s2.outErr = 1

/-! ## CSE -/

/-- SUM8 is the exact unsigned sum modulo 256; an 8-bit adder that wraps gives the same; the order does not matter; with the
spec's corner cases. Derived from 42_checksum_engine.md section 1: the spec gives the sum, for 7 or 8 bytes, and marks as
derived its sentence "The order of addition does not matter, and an 8-bit adder that wraps gives the same result as a wide
adder truncated at the end"; that the operation takes any number of bytes is the model's form of it (log entry 14, DEDUCED). -/
def Obligations.ByteSumModulo : Prop :=
  (∀ (n : Nat) (b : Vector Byte n),
    (sum8 b).toNat = (b.toList.map BitVec.toNat).sum % 256 ∧ sum8 b = b.toList.foldl (· + ·) 0 ∧
      ∀ c : Vector Byte n, c.toList.Perm b.toList → sum8 c = sum8 b) ∧
  sum8 (Vector.replicate 7 (0 : Byte)) = 0 ∧ sum8 (Vector.replicate 8 (0 : Byte)) = 0 ∧
  sum8 (Vector.replicate 7 (0xFF : Byte)) = 0xF9 ∧ sum8 (Vector.replicate 8 (0xFF : Byte)) = 0xF8 ∧
  sum8 #v[(0x80 : Byte), 0x80] = 0 ∧ sum8 #v[(0 : Byte), 0, 0, 0, 0, 0xC8, 0] = 0xC8

/-- NEG8 is `(256 - s) mod 256`, the two's-complement negation, the only byte that makes the sum 0; with the spec's corner
cases. Derived from 42_checksum_engine.md section 1: the spec gives the formula and marks as derived its sentence "For every
`s`, `(s + NEG8(s)) mod 256 = 0`, and `NEG8(s)` is the only byte with that property". -/
def Obligations.NegationMakesSumZero : Prop :=
  (∀ s : Byte, (neg8 s).toNat = (256 - s.toNat) % 256 ∧ neg8 s = ~~~s + 1 ∧
    ∀ k : Byte, (s.toNat + k.toNat) % 256 = 0 ↔ k = neg8 s) ∧
  neg8 0 = 0 ∧ neg8 1 = 0xFF ∧ neg8 0x80 = 0x80 ∧ neg8 0xFF = 0x01 ∧ neg8 0xC8 = 0x38

/-- CSUM_GEN is the negated sum of the seven bytes, CSUM_OK the test that all eight sum to 0, and the two agree: the packet
passes iff its eighth byte is the generated one; with the spec's examples. Derived from 42_checksum_engine.md section 1: the
spec gives both functions and marks as derived its sentence "The two methods agree: `CSUM_OK(b[0..7])` iff
`b[7] = CSUM_GEN(b[0..6])`". -/
def Obligations.ChecksumTestMatchesGenerator : Prop :=
  (∀ b : Vector Byte 7, (csumGen b).toNat = (256 - (b.toList.map BitVec.toNat).sum % 256) % 256) ∧
  (∀ b : Buffer, csumOk b = true ↔ (b.toList.map BitVec.toNat).sum % 256 = 0) ∧
  (∀ (b : Vector Byte 7) (k : Byte), csumOk (b.push k) = true ↔ k = csumGen b) ∧
  csumGen #v[0, 0, 0, 0, 0, 0xC8, 0] = 0x38 ∧ csumOk (Vector.replicate 8 0) = true ∧
  csumOk (Vector.replicate 8 0xFF) = false ∧ csumOk #v[0, 0, 0, 0, 0, 0xC8, 0, 0x38] = true

/-- Of the `2^64` packets exactly `2^56` are valid. The spec marks its sentence as derived. -/
def Obligations.ValidPacketsCounted : Prop :=
  Nat.card Buffer = 2 ^ 64 ∧ Nat.card (Subtype fun b : Buffer => csumOk b = true) = 2 ^ 56

/-- Single-byte error detection: replacing one byte of a valid packet by a different value makes VALIDATE write `out_ok = 0`.
The source's property is "Mutating any single byte of a validly-checksummed serialized packet ... causes `validate` to return
false", its exception never occurring (90_conflicts.md C7); the spec marks its rule as derived. -/
def Obligations.SingleByteChangeDetected : Prop :=
  ∀ (b : Buffer) (k : Fin 8) (v : Byte) (s : State), csumOk b = true → v ≠ b[k] →
    exec (.validate (deserialize (b.set k v))) s = .next { s with rspValid := 1, rspOp := 0b10, outOk := 0 }

/-- What the checksum does not detect: a reordering of the bytes, and a change of two bytes whose differences cancel modulo
256. The spec marks its rule as derived. -/
def Obligations.CancellingChangesUndetected : Prop :=
  (∀ b c : Buffer, c.toList.Perm b.toList → csumOk c = csumOk b) ∧
  ∀ (b : Buffer) (i j : Fin 8) (u v : Byte), i ≠ j →
    (u.toNat + v.toNat) % 256 = (b[i].toNat + b[j].toNat) % 256 → csumOk ((b.set i u).set j v) = csumOk b

/-- R129: VALIDATE completes for every Reading, writes `out_ok` by the sum of the eight serialized bytes, and leaves every
other register but `rsp_valid` and `rsp_op` alone: an invalid Reading is no error. -/
def Obligations.ValidateTestsByteSum : Prop :=
  ∀ (r : Reading) (s : State),
    exec (.validate r) s = .next { s with
      rspValid := 1, rspOp := 0b10
      outOk :=
        if ((r.timestamp.extractLsb' 24 8).toNat + (r.timestamp.extractLsb' 16 8).toNat +
            (r.timestamp.extractLsb' 8 8).toNat + (r.timestamp.extractLsb' 0 8).toNat +
            (r.tempStatus.extractLsb' 8 8).toNat + (r.tempStatus.extractLsb' 0 8).toNat + r.id.toNat +
            r.checksum.toNat) % 256 = 0
        then 1 else 0 }

/-! ## DSC -/

/-- R142: DIVMOD10 is the integer quotient and remainder by 10, within 12 and 4 bits; with the rule's corner cases. -/
def Obligations.QuotientAndTenthsDigit : Prop :=
  (∀ m : BitVec 15, (wholeDegrees m).toNat = m.toNat / 10 ∧ (tenthsDigit m).toNat = m.toNat % 10 ∧
    10 * (wholeDegrees m).toNat + (tenthsDigit m).toNat = m.toNat ∧ (wholeDegrees m).toNat ≤ 3276 ∧
    (tenthsDigit m).toNat ≤ 9) ∧
  wholeDegrees 9 = 0 ∧ tenthsDigit 9 = 9 ∧ wholeDegrees 10 = 1 ∧ tenthsDigit 10 = 0 ∧ wholeDegrees 199 = 19 ∧
  tenthsDigit 199 = 9 ∧ wholeDegrees 235 = 23 ∧ tenthsDigit 235 = 5 ∧ wholeDegrees 1200 = 120 ∧ tenthsDigit 1200 = 0 ∧
  wholeDegrees 32767 = 3276 ∧ tenthsDigit 32767 = 7

/-- UNPACK_POWER is bit 15, UNPACK_TEMP bits 14:0 with no offset and no range check, and both undo PACK on the whole 15-bit
range; with the spec's examples. Derived from 43_describe.md section 1: the spec gives both functions and marks as derived its
sentence "`PACK` and the two unpack functions are inverse to each other on the 15-bit range". -/
def Obligations.UnpackUndoesPack : Prop :=
  (∀ s : BitVec 16, (unpackPower s).toNat = s.toNat / 32768 ∧ (unpackTemp s).toNat = (s &&& 0x7FFF).toNat ∧
    (unpackTemp s).toNat = s.toNat % 32768) ∧
  (∀ (c : Nat) (p : PowerStatus), c ≤ 32767 → (unpackTemp (pack c p)).toNat = c ∧ unpackPower (pack c p) = p.toBit) ∧
  unpackPower 0x00C8 = 0 ∧ unpackPower 0x80C8 = 1 ∧ unpackPower 0x7FFF = 0 ∧ unpackPower 0x8000 = 1 ∧
  unpackTemp 0x00C8 = 200 ∧ unpackTemp 0x80C8 = 200 ∧ unpackTemp 0x84B0 = 1200 ∧ unpackTemp 0xFFFF = 32767

/-- R144: DESCRIBE completes for every Reading, writes the power bit, whole degrees, tenths digit and the validity of the
Reading, and leaves every other register but `rsp_valid` and `rsp_op` alone. -/
def Obligations.DescribeWritesDisplay : Prop :=
  ∀ (r : Reading) (s : State), ∃ t, exec (.describe r) s = .next t ∧
    t = { s with
          rspValid := 1, rspOp := 0b11, outPower := t.outPower, outWhole := t.outWhole, outTenths := t.outTenths
          outValidity := t.outValidity } ∧
    t.outPower.toNat = r.tempStatus.toNat / 32768 ∧ t.outWhole.toNat = r.tempStatus.toNat % 32768 / 10 ∧
    t.outTenths.toNat = r.tempStatus.toNat % 32768 % 10 ∧
    t.outValidity =
      if ((r.timestamp.extractLsb' 24 8).toNat + (r.timestamp.extractLsb' 16 8).toNat +
          (r.timestamp.extractLsb' 8 8).toNat + (r.timestamp.extractLsb' 0 8).toNat +
          (r.tempStatus.extractLsb' 8 8).toNat + (r.tempStatus.extractLsb' 0 8).toNat + r.id.toNat +
          r.checksum.toNat) % 256 = 0
      then 1 else 0

/-- A Reading made by ENCODE and described unchanged shows the power status, the clamped temperature (20 to 120 whole degrees)
and validity 1. The spec marks its rule as derived. -/
def Obligations.EncodeThenDescribe : Prop :=
  ∀ (t x : BitVec 32) (p : PowerStatus) (n : BitVec 32) (s : State), ∃ s1 s2,
    exec (.encode t x p n) s = .next s1 ∧ exec (.describe (deserialize s1.outBuf)) s1 = .next s2 ∧
    s2.outPower = (if p = .battery then 1 else 0) ∧
    (10 * s2.outWhole.toNat + s2.outTenths.toNat : Int) = max 200 (min x.toInt 1200) ∧ s2.outTenths.toNat ≤ 9 ∧
    20 ≤ s2.outWhole.toNat ∧ s2.outWhole.toNat ≤ 120 ∧ s2.outValidity = 1

/-- `out_validity` after DESCRIBE equals `out_ok` after VALIDATE of the same Reading, whatever ran in between. The spec marks
its rule as derived. -/
def Obligations.DescribeAgreesWithValidate : Prop :=
  ∀ (r : Reading) (s s' : State), ∃ t t',
    exec (.validate r) s = .next t ∧ exec (.describe r) s' = .next t' ∧ t'.outValidity = t.outOk

/-! ## Commands together -/

/-- R12: the values a command writes are a function of its operands and of nothing else: from any two states it writes the
same values to the same registers. -/
def Obligations.WrittenValuesDependOnOperandsOnly : Prop :=
  ∀ (i : Instr) (s s' : State), ∃ t t', exec i s = .next t ∧ exec i s' = .next t' ∧
    t.rspValid = t'.rspValid ∧ t.rspOp = t'.rspOp ∧
    (i.opcode = 0b00 → t.outBuf = t'.outBuf) ∧
    (i.opcode = 0b01 → t.outTimestamp = t'.outTimestamp ∧ t.outTempStatus = t'.outTempStatus ∧ t.outId = t'.outId ∧
      t.outChecksum = t'.outChecksum ∧ t.outErr = t'.outErr) ∧
    (i.opcode = 0b10 → t.outOk = t'.outOk) ∧
    (i.opcode = 0b11 → t.outPower = t'.outPower ∧ t.outWhole = t'.outWhole ∧ t.outTenths = t'.outTenths ∧
      t.outValidity = t'.outValidity)

/-- Every command is idempotent: run again on its own result it changes nothing (20_memory.md section 4, "presenting the same
command with the same operands again writes the same values again"). -/
def Obligations.CommandsAreIdempotent : Prop :=
  ∀ (i : Instr) (s t : State), exec i s = .next t → exec i t = .next t

/-- Order of two commands (20_memory.md section 6): of the same opcode the later write wins; of different opcodes either order
leaves the same registers but `rsp_op`, which names the last. -/
def Obligations.LaterCommandWinsOthersCommute : Prop :=
  ∀ (i j : Instr) (s : State), ∃ si sj sij sji,
    exec i s = .next si ∧ exec j s = .next sj ∧ exec j si = .next sij ∧ exec i sj = .next sji ∧
    (i.opcode = j.opcode → sij = sj) ∧
    (i.opcode ≠ j.opcode → sij = { sji with rspOp := j.opcode } ∧ sji.rspOp = i.opcode)

/-- Instances share nothing (20_memory.md section 6; the vector of single machines is the model's form, log entry 6): one instance's step is its own step, leaves every other instance alone, and steps of two
instances may interleave in either order with the same result. -/
def Obligations.InstancesDoNotInterfere : Prop :=
  ∀ (n : Nat) (v : Instances n) (j k : Fin n), ∃ vj vk,
    Instances.stepAt v j = .next vj ∧ Instances.stepAt v k = .next vk ∧ step v[k] = .next vk[k] ∧
    (j ≠ k → vk[j] = v[j] ∧ ∃ w, Instances.stepAt vj k = .next w ∧ Instances.stepAt vk j = .next w)

/-- RECEIVE (30_encoding.md section 5): with length 8 it ends with the packet's fields, `out_ok` and the display registers of
those fields, and leaving the VALIDATE out changes nothing DESCRIBE writes; with another length it stops after the DECODE. -/
def Obligations.ReceiveDecodesValidatesDescribes : Prop :=
  ∀ (b : Buffer) (len : BitVec 16) (s : State), ∃ t u d,
    receive b len s = .next t ∧ receiveWithoutValidate b len s = .next u ∧ exec (.decode b len) s = .next d ∧
    (len = 8 → ∃ d' d'', exec (.validate (deserialize b)) d = .next d' ∧ exec (.describe (deserialize b)) d' = .next d'' ∧
      t = d'' ∧ u.outPower = t.outPower ∧ u.outWhole = t.outWhole ∧ u.outTenths = t.outTenths ∧
      u.outValidity = t.outValidity ∧ t.outOk = t.outValidity) ∧
    (len ≠ 8 → t = d ∧ u = d)

/-- EMIT (30_encoding.md section 5) is ENCODE of its operands, and the requester's counter becomes `(n + 1) mod 256`. -/
def Obligations.EmitEncodesAndCounts : Prop :=
  ∀ (t x : BitVec 32) (p : PowerStatus) (n : BitVec 32) (s : State),
    (emit t x p n s).1 = exec (.encode t x p n) s ∧ (emit t x p n s).2.toNat = (n.toNat + 1) % 256
end

