-- ==== Sys2Proof/Laws/Encoding.lean ====
section
/-! SUPPORT. The drawings of a buffer and of a command's ports as numbers, and the decoder on printed samples. -/

namespace Sys2Proof

/-- A concatenation as a number: the left part stands above the right. -/
theorem toNat_append_eq (n m : Nat) (x : BitVec n) (y : BitVec m) : (x ++ y).toNat = 2 ^ m * x.toNat + y.toNat := by
  rw [BitVec.toNat_append, Nat.shiftLeft_eq, Nat.mul_comm, ← Nat.two_pow_add_eq_or_of_lt y.isLt]

/-- A slice above the right part of a concatenation is a slice of the left part. -/
theorem extract_append_left (n m : Nat) (x : BitVec n) (y : BitVec m) (s k : Nat) (h : m ≤ s) :
    (x ++ y).extractLsb' s k = x.extractLsb' (s - m) k := by
  ext i hi
  simp only [BitVec.getElem_extractLsb', BitVec.getLsbD_append]
  rw [if_neg (by omega), show s + i - m = s - m + i by omega]

/-- The lowest slice of a concatenation is the right part. -/
theorem extract_append_right (n m : Nat) (x : BitVec n) (y : BitVec m) : (x ++ y).extractLsb' 0 m = y := by
  ext i hi
  simp [BitVec.getElem_extractLsb', BitVec.getLsbD_append, hi]

theorem Buffer.toBits_toNat (b : Buffer) :
    (Buffer.toBits b).toNat =
      2 ^ 8 * (2 ^ 8 * (2 ^ 8 * (2 ^ 8 * (2 ^ 8 * (2 ^ 8 * (2 ^ 8 * b[0].toNat + b[1].toNat) + b[2].toNat) + b[3].toNat)
        + b[4].toNat) + b[5].toNat) + b[6].toNat) + b[7].toNat := by
  unfold Buffer.toBits
  iterate 7 rw [toNat_append_eq]

theorem Ports.toWord_toNat (p : Ports) :
    p.toWord.toNat =
      2 ^ 2 * (2 ^ 32 * (2 ^ 32 * (2 ^ 1 * (2 ^ 32 * (2 ^ 64 * (2 ^ 16 * (2 ^ 32 * (2 ^ 16 * (2 ^ 8 * p.rdChecksum.toNat
        + p.rdId.toNat) + p.rdTempStatus.toNat) + p.rdTimestamp.toNat) + p.inLen.toNat) + (Buffer.toBits p.inBuf).toNat)
        + p.inId.toNat) + p.inPower.toNat) + p.inTemp.toNat) + p.inTimestamp.toNat) + p.cmdOp.toNat := by
  unfold Ports.toWord
  iterate 10 rw [toNat_append_eq]

@[simp] theorem PowerStatus.ofBit_toBit (p : PowerStatus) : PowerStatus.ofBit p.toBit = p := by cases p <;> rfl

@[simp] theorem PowerStatus.toBit_ofBit (b : BitVec 1) : (PowerStatus.ofBit b).toBit = b := by
  revert b; decide

@[simp] theorem encode_rst (i : Instr) : (encode i).rst = 0 := by cases i <;> rfl
@[simp] theorem encode_cmdValid (i : Instr) : (encode i).cmdValid = 1 := by cases i <;> rfl

/-- Decoding a printed command gives it back. -/
@[simp] theorem decode_encode (i : Instr) : decode (encode i) = .command i := by
  cases i <;> simp [encode, decode, decodeCommand, Ports.idle, Ports.rdReading]

end Sys2Proof
end

