-- ==== Sys2Proof/Laws/State.lean ====
section
/-! SUPPORT. One lemma per field per named update of State, true by unfolding, so that no later proof unfolds a record update. -/

namespace Sys2Proof.Machine

/-! ### respond -/

@[simp] theorem State.respond_rspValid (s : State) (op : BitVec 2) : (s.respond op).rspValid = 1 := rfl
@[simp] theorem State.respond_rspOp (s : State) (op : BitVec 2) : (s.respond op).rspOp = op := rfl
@[simp] theorem State.respond_outBuf (s : State) (op : BitVec 2) : (s.respond op).outBuf = s.outBuf := rfl
@[simp] theorem State.respond_outTimestamp (s : State) (op : BitVec 2) : (s.respond op).outTimestamp = s.outTimestamp := rfl
@[simp] theorem State.respond_outTempStatus (s : State) (op : BitVec 2) : (s.respond op).outTempStatus = s.outTempStatus := rfl
@[simp] theorem State.respond_outId (s : State) (op : BitVec 2) : (s.respond op).outId = s.outId := rfl
@[simp] theorem State.respond_outChecksum (s : State) (op : BitVec 2) : (s.respond op).outChecksum = s.outChecksum := rfl
@[simp] theorem State.respond_outErr (s : State) (op : BitVec 2) : (s.respond op).outErr = s.outErr := rfl
@[simp] theorem State.respond_outOk (s : State) (op : BitVec 2) : (s.respond op).outOk = s.outOk := rfl
@[simp] theorem State.respond_outPower (s : State) (op : BitVec 2) : (s.respond op).outPower = s.outPower := rfl
@[simp] theorem State.respond_outWhole (s : State) (op : BitVec 2) : (s.respond op).outWhole = s.outWhole := rfl
@[simp] theorem State.respond_outTenths (s : State) (op : BitVec 2) : (s.respond op).outTenths = s.outTenths := rfl
@[simp] theorem State.respond_outValidity (s : State) (op : BitVec 2) : (s.respond op).outValidity = s.outValidity := rfl
@[simp] theorem State.respond_inputs (s : State) (op : BitVec 2) : (s.respond op).inputs = s.inputs := rfl

/-! ### putPacket -/

@[simp] theorem State.putPacket_rspValid (s : State) (b : Buffer) : (s.putPacket b).rspValid = s.rspValid := rfl
@[simp] theorem State.putPacket_rspOp (s : State) (b : Buffer) : (s.putPacket b).rspOp = s.rspOp := rfl
@[simp] theorem State.putPacket_outBuf (s : State) (b : Buffer) : (s.putPacket b).outBuf = b := rfl
@[simp] theorem State.putPacket_outTimestamp (s : State) (b : Buffer) : (s.putPacket b).outTimestamp = s.outTimestamp := rfl
@[simp] theorem State.putPacket_outTempStatus (s : State) (b : Buffer) : (s.putPacket b).outTempStatus = s.outTempStatus := rfl
@[simp] theorem State.putPacket_outId (s : State) (b : Buffer) : (s.putPacket b).outId = s.outId := rfl
@[simp] theorem State.putPacket_outChecksum (s : State) (b : Buffer) : (s.putPacket b).outChecksum = s.outChecksum := rfl
@[simp] theorem State.putPacket_outErr (s : State) (b : Buffer) : (s.putPacket b).outErr = s.outErr := rfl
@[simp] theorem State.putPacket_outOk (s : State) (b : Buffer) : (s.putPacket b).outOk = s.outOk := rfl
@[simp] theorem State.putPacket_outPower (s : State) (b : Buffer) : (s.putPacket b).outPower = s.outPower := rfl
@[simp] theorem State.putPacket_outWhole (s : State) (b : Buffer) : (s.putPacket b).outWhole = s.outWhole := rfl
@[simp] theorem State.putPacket_outTenths (s : State) (b : Buffer) : (s.putPacket b).outTenths = s.outTenths := rfl
@[simp] theorem State.putPacket_outValidity (s : State) (b : Buffer) : (s.putPacket b).outValidity = s.outValidity := rfl
@[simp] theorem State.putPacket_inputs (s : State) (b : Buffer) : (s.putPacket b).inputs = s.inputs := rfl

/-! ### putDecoded -/

@[simp] theorem State.putDecoded_rspValid (s : State) (r : Reading) (e : BitVec 2) : (s.putDecoded r e).rspValid = s.rspValid := rfl
@[simp] theorem State.putDecoded_rspOp (s : State) (r : Reading) (e : BitVec 2) : (s.putDecoded r e).rspOp = s.rspOp := rfl
@[simp] theorem State.putDecoded_outBuf (s : State) (r : Reading) (e : BitVec 2) : (s.putDecoded r e).outBuf = s.outBuf := rfl
@[simp] theorem State.putDecoded_outTimestamp (s : State) (r : Reading) (e : BitVec 2) : (s.putDecoded r e).outTimestamp = r.timestamp := rfl
@[simp] theorem State.putDecoded_outTempStatus (s : State) (r : Reading) (e : BitVec 2) : (s.putDecoded r e).outTempStatus = r.tempStatus := rfl
@[simp] theorem State.putDecoded_outId (s : State) (r : Reading) (e : BitVec 2) : (s.putDecoded r e).outId = r.id := rfl
@[simp] theorem State.putDecoded_outChecksum (s : State) (r : Reading) (e : BitVec 2) : (s.putDecoded r e).outChecksum = r.checksum := rfl
@[simp] theorem State.putDecoded_outErr (s : State) (r : Reading) (e : BitVec 2) : (s.putDecoded r e).outErr = e := rfl
@[simp] theorem State.putDecoded_outOk (s : State) (r : Reading) (e : BitVec 2) : (s.putDecoded r e).outOk = s.outOk := rfl
@[simp] theorem State.putDecoded_outPower (s : State) (r : Reading) (e : BitVec 2) : (s.putDecoded r e).outPower = s.outPower := rfl
@[simp] theorem State.putDecoded_outWhole (s : State) (r : Reading) (e : BitVec 2) : (s.putDecoded r e).outWhole = s.outWhole := rfl
@[simp] theorem State.putDecoded_outTenths (s : State) (r : Reading) (e : BitVec 2) : (s.putDecoded r e).outTenths = s.outTenths := rfl
@[simp] theorem State.putDecoded_outValidity (s : State) (r : Reading) (e : BitVec 2) : (s.putDecoded r e).outValidity = s.outValidity := rfl
@[simp] theorem State.putDecoded_inputs (s : State) (r : Reading) (e : BitVec 2) : (s.putDecoded r e).inputs = s.inputs := rfl

/-! ### raiseMalformedLength -/

@[simp] theorem State.raiseMalformedLength_rspValid (s : State) : (s.raiseMalformedLength).rspValid = s.rspValid := rfl
@[simp] theorem State.raiseMalformedLength_rspOp (s : State) : (s.raiseMalformedLength).rspOp = s.rspOp := rfl
@[simp] theorem State.raiseMalformedLength_outBuf (s : State) : (s.raiseMalformedLength).outBuf = s.outBuf := rfl
@[simp] theorem State.raiseMalformedLength_outTimestamp (s : State) : (s.raiseMalformedLength).outTimestamp = 0 := rfl
@[simp] theorem State.raiseMalformedLength_outTempStatus (s : State) : (s.raiseMalformedLength).outTempStatus = 0 := rfl
@[simp] theorem State.raiseMalformedLength_outId (s : State) : (s.raiseMalformedLength).outId = 0 := rfl
@[simp] theorem State.raiseMalformedLength_outChecksum (s : State) : (s.raiseMalformedLength).outChecksum = 0 := rfl
@[simp] theorem State.raiseMalformedLength_outErr (s : State) : (s.raiseMalformedLength).outErr = 1 := rfl
@[simp] theorem State.raiseMalformedLength_outOk (s : State) : (s.raiseMalformedLength).outOk = s.outOk := rfl
@[simp] theorem State.raiseMalformedLength_outPower (s : State) : (s.raiseMalformedLength).outPower = s.outPower := rfl
@[simp] theorem State.raiseMalformedLength_outWhole (s : State) : (s.raiseMalformedLength).outWhole = s.outWhole := rfl
@[simp] theorem State.raiseMalformedLength_outTenths (s : State) : (s.raiseMalformedLength).outTenths = s.outTenths := rfl
@[simp] theorem State.raiseMalformedLength_outValidity (s : State) : (s.raiseMalformedLength).outValidity = s.outValidity := rfl
@[simp] theorem State.raiseMalformedLength_inputs (s : State) : (s.raiseMalformedLength).inputs = s.inputs := rfl

/-! ### putOk -/

@[simp] theorem State.putOk_rspValid (s : State) (k : BitVec 1) : (s.putOk k).rspValid = s.rspValid := rfl
@[simp] theorem State.putOk_rspOp (s : State) (k : BitVec 1) : (s.putOk k).rspOp = s.rspOp := rfl
@[simp] theorem State.putOk_outBuf (s : State) (k : BitVec 1) : (s.putOk k).outBuf = s.outBuf := rfl
@[simp] theorem State.putOk_outTimestamp (s : State) (k : BitVec 1) : (s.putOk k).outTimestamp = s.outTimestamp := rfl
@[simp] theorem State.putOk_outTempStatus (s : State) (k : BitVec 1) : (s.putOk k).outTempStatus = s.outTempStatus := rfl
@[simp] theorem State.putOk_outId (s : State) (k : BitVec 1) : (s.putOk k).outId = s.outId := rfl
@[simp] theorem State.putOk_outChecksum (s : State) (k : BitVec 1) : (s.putOk k).outChecksum = s.outChecksum := rfl
@[simp] theorem State.putOk_outErr (s : State) (k : BitVec 1) : (s.putOk k).outErr = s.outErr := rfl
@[simp] theorem State.putOk_outOk (s : State) (k : BitVec 1) : (s.putOk k).outOk = k := rfl
@[simp] theorem State.putOk_outPower (s : State) (k : BitVec 1) : (s.putOk k).outPower = s.outPower := rfl
@[simp] theorem State.putOk_outWhole (s : State) (k : BitVec 1) : (s.putOk k).outWhole = s.outWhole := rfl
@[simp] theorem State.putOk_outTenths (s : State) (k : BitVec 1) : (s.putOk k).outTenths = s.outTenths := rfl
@[simp] theorem State.putOk_outValidity (s : State) (k : BitVec 1) : (s.putOk k).outValidity = s.outValidity := rfl
@[simp] theorem State.putOk_inputs (s : State) (k : BitVec 1) : (s.putOk k).inputs = s.inputs := rfl

/-! ### putDisplay -/

@[simp] theorem State.putDisplay_rspValid (s : State) (p : BitVec 1) (w : BitVec 12) (d : BitVec 4) (v : BitVec 1) : (s.putDisplay p w d v).rspValid = s.rspValid := rfl
@[simp] theorem State.putDisplay_rspOp (s : State) (p : BitVec 1) (w : BitVec 12) (d : BitVec 4) (v : BitVec 1) : (s.putDisplay p w d v).rspOp = s.rspOp := rfl
@[simp] theorem State.putDisplay_outBuf (s : State) (p : BitVec 1) (w : BitVec 12) (d : BitVec 4) (v : BitVec 1) : (s.putDisplay p w d v).outBuf = s.outBuf := rfl
@[simp] theorem State.putDisplay_outTimestamp (s : State) (p : BitVec 1) (w : BitVec 12) (d : BitVec 4) (v : BitVec 1) : (s.putDisplay p w d v).outTimestamp = s.outTimestamp := rfl
@[simp] theorem State.putDisplay_outTempStatus (s : State) (p : BitVec 1) (w : BitVec 12) (d : BitVec 4) (v : BitVec 1) : (s.putDisplay p w d v).outTempStatus = s.outTempStatus := rfl
@[simp] theorem State.putDisplay_outId (s : State) (p : BitVec 1) (w : BitVec 12) (d : BitVec 4) (v : BitVec 1) : (s.putDisplay p w d v).outId = s.outId := rfl
@[simp] theorem State.putDisplay_outChecksum (s : State) (p : BitVec 1) (w : BitVec 12) (d : BitVec 4) (v : BitVec 1) : (s.putDisplay p w d v).outChecksum = s.outChecksum := rfl
@[simp] theorem State.putDisplay_outErr (s : State) (p : BitVec 1) (w : BitVec 12) (d : BitVec 4) (v : BitVec 1) : (s.putDisplay p w d v).outErr = s.outErr := rfl
@[simp] theorem State.putDisplay_outOk (s : State) (p : BitVec 1) (w : BitVec 12) (d : BitVec 4) (v : BitVec 1) : (s.putDisplay p w d v).outOk = s.outOk := rfl
@[simp] theorem State.putDisplay_outPower (s : State) (p : BitVec 1) (w : BitVec 12) (d : BitVec 4) (v : BitVec 1) : (s.putDisplay p w d v).outPower = p := rfl
@[simp] theorem State.putDisplay_outWhole (s : State) (p : BitVec 1) (w : BitVec 12) (d : BitVec 4) (v : BitVec 1) : (s.putDisplay p w d v).outWhole = w := rfl
@[simp] theorem State.putDisplay_outTenths (s : State) (p : BitVec 1) (w : BitVec 12) (d : BitVec 4) (v : BitVec 1) : (s.putDisplay p w d v).outTenths = d := rfl
@[simp] theorem State.putDisplay_outValidity (s : State) (p : BitVec 1) (w : BitVec 12) (d : BitVec 4) (v : BitVec 1) : (s.putDisplay p w d v).outValidity = v := rfl
@[simp] theorem State.putDisplay_inputs (s : State) (p : BitVec 1) (w : BitVec 12) (d : BitVec 4) (v : BitVec 1) : (s.putDisplay p w d v).inputs = s.inputs := rfl

/-! ### resetRegisters -/

@[simp] theorem State.resetRegisters_rspValid (s : State) : (s.resetRegisters).rspValid = 0 := rfl
@[simp] theorem State.resetRegisters_rspOp (s : State) : (s.resetRegisters).rspOp = 0 := rfl
@[simp] theorem State.resetRegisters_outBuf (s : State) : (s.resetRegisters).outBuf = Vector.replicate 8 0 := rfl
@[simp] theorem State.resetRegisters_outTimestamp (s : State) : (s.resetRegisters).outTimestamp = 0 := rfl
@[simp] theorem State.resetRegisters_outTempStatus (s : State) : (s.resetRegisters).outTempStatus = 0 := rfl
@[simp] theorem State.resetRegisters_outId (s : State) : (s.resetRegisters).outId = 0 := rfl
@[simp] theorem State.resetRegisters_outChecksum (s : State) : (s.resetRegisters).outChecksum = 0 := rfl
@[simp] theorem State.resetRegisters_outErr (s : State) : (s.resetRegisters).outErr = 0 := rfl
@[simp] theorem State.resetRegisters_outOk (s : State) : (s.resetRegisters).outOk = 0 := rfl
@[simp] theorem State.resetRegisters_outPower (s : State) : (s.resetRegisters).outPower = 0 := rfl
@[simp] theorem State.resetRegisters_outWhole (s : State) : (s.resetRegisters).outWhole = 0 := rfl
@[simp] theorem State.resetRegisters_outTenths (s : State) : (s.resetRegisters).outTenths = 0 := rfl
@[simp] theorem State.resetRegisters_outValidity (s : State) : (s.resetRegisters).outValidity = 0 := rfl
@[simp] theorem State.resetRegisters_inputs (s : State) : (s.resetRegisters).inputs = s.inputs := rfl

/-! ### idleStep -/

@[simp] theorem State.idleStep_rspValid (s : State) : (s.idleStep).rspValid = 0 := rfl
@[simp] theorem State.idleStep_rspOp (s : State) : (s.idleStep).rspOp = s.rspOp := rfl
@[simp] theorem State.idleStep_outBuf (s : State) : (s.idleStep).outBuf = s.outBuf := rfl
@[simp] theorem State.idleStep_outTimestamp (s : State) : (s.idleStep).outTimestamp = s.outTimestamp := rfl
@[simp] theorem State.idleStep_outTempStatus (s : State) : (s.idleStep).outTempStatus = s.outTempStatus := rfl
@[simp] theorem State.idleStep_outId (s : State) : (s.idleStep).outId = s.outId := rfl
@[simp] theorem State.idleStep_outChecksum (s : State) : (s.idleStep).outChecksum = s.outChecksum := rfl
@[simp] theorem State.idleStep_outErr (s : State) : (s.idleStep).outErr = s.outErr := rfl
@[simp] theorem State.idleStep_outOk (s : State) : (s.idleStep).outOk = s.outOk := rfl
@[simp] theorem State.idleStep_outPower (s : State) : (s.idleStep).outPower = s.outPower := rfl
@[simp] theorem State.idleStep_outWhole (s : State) : (s.idleStep).outWhole = s.outWhole := rfl
@[simp] theorem State.idleStep_outTenths (s : State) : (s.idleStep).outTenths = s.outTenths := rfl
@[simp] theorem State.idleStep_outValidity (s : State) : (s.idleStep).outValidity = s.outValidity := rfl
@[simp] theorem State.idleStep_inputs (s : State) : (s.idleStep).inputs = s.inputs := rfl

/-! ### present -/

@[simp] theorem State.present_rspValid (s : State) (p : Ports) : (s.present p).rspValid = s.rspValid := rfl
@[simp] theorem State.present_rspOp (s : State) (p : Ports) : (s.present p).rspOp = s.rspOp := rfl
@[simp] theorem State.present_outBuf (s : State) (p : Ports) : (s.present p).outBuf = s.outBuf := rfl
@[simp] theorem State.present_outTimestamp (s : State) (p : Ports) : (s.present p).outTimestamp = s.outTimestamp := rfl
@[simp] theorem State.present_outTempStatus (s : State) (p : Ports) : (s.present p).outTempStatus = s.outTempStatus := rfl
@[simp] theorem State.present_outId (s : State) (p : Ports) : (s.present p).outId = s.outId := rfl
@[simp] theorem State.present_outChecksum (s : State) (p : Ports) : (s.present p).outChecksum = s.outChecksum := rfl
@[simp] theorem State.present_outErr (s : State) (p : Ports) : (s.present p).outErr = s.outErr := rfl
@[simp] theorem State.present_outOk (s : State) (p : Ports) : (s.present p).outOk = s.outOk := rfl
@[simp] theorem State.present_outPower (s : State) (p : Ports) : (s.present p).outPower = s.outPower := rfl
@[simp] theorem State.present_outWhole (s : State) (p : Ports) : (s.present p).outWhole = s.outWhole := rfl
@[simp] theorem State.present_outTenths (s : State) (p : Ports) : (s.present p).outTenths = s.outTenths := rfl
@[simp] theorem State.present_outValidity (s : State) (p : Ports) : (s.present p).outValidity = s.outValidity := rfl
@[simp] theorem State.present_inputs (s : State) (p : Ports) : (s.present p).inputs = p :: s.inputs := rfl

/-! ### dropInput -/

@[simp] theorem State.dropInput_rspValid (s : State) : (s.dropInput).rspValid = s.rspValid := rfl
@[simp] theorem State.dropInput_rspOp (s : State) : (s.dropInput).rspOp = s.rspOp := rfl
@[simp] theorem State.dropInput_outBuf (s : State) : (s.dropInput).outBuf = s.outBuf := rfl
@[simp] theorem State.dropInput_outTimestamp (s : State) : (s.dropInput).outTimestamp = s.outTimestamp := rfl
@[simp] theorem State.dropInput_outTempStatus (s : State) : (s.dropInput).outTempStatus = s.outTempStatus := rfl
@[simp] theorem State.dropInput_outId (s : State) : (s.dropInput).outId = s.outId := rfl
@[simp] theorem State.dropInput_outChecksum (s : State) : (s.dropInput).outChecksum = s.outChecksum := rfl
@[simp] theorem State.dropInput_outErr (s : State) : (s.dropInput).outErr = s.outErr := rfl
@[simp] theorem State.dropInput_outOk (s : State) : (s.dropInput).outOk = s.outOk := rfl
@[simp] theorem State.dropInput_outPower (s : State) : (s.dropInput).outPower = s.outPower := rfl
@[simp] theorem State.dropInput_outWhole (s : State) : (s.dropInput).outWhole = s.outWhole := rfl
@[simp] theorem State.dropInput_outTenths (s : State) : (s.dropInput).outTenths = s.outTenths := rfl
@[simp] theorem State.dropInput_outValidity (s : State) : (s.dropInput).outValidity = s.outValidity := rfl
@[simp] theorem State.dropInput_inputs (s : State) : (s.dropInput).inputs = s.inputs.tail := rfl

/-! ### The ports -/

@[simp] theorem State.sampled_present (s : State) (p : Ports) : (s.present p).sampled = p := rfl
@[simp] theorem State.dropInput_present (s : State) (p : Ports) : (s.present p).dropInput = s := rfl

theorem State.sampled_of_nil {s : State} (h : s.inputs = []) : s.sampled = Ports.idle := by
  simp [State.sampled, h]

theorem State.dropInput_of_nil {s : State} (h : s.inputs = []) : s.dropInput = s := by
  cases s
  obtain rfl := h
  rfl

/-- Every state presents nothing, or is a state to which one sample was presented. -/
theorem State.nil_or_present (s : State) : s.inputs = [] ∨ ∃ (s' : State) (p : Ports), s = s'.present p := by
  rcases h : s.inputs with _ | ⟨p, ps⟩
  · exact .inl rfl
  · exact .inr ⟨{ s with inputs := ps }, p, by cases s; simp_all [State.present]⟩

@[simp] theorem State.decoded_timestamp (s : State) : s.decoded.timestamp = s.outTimestamp := rfl
@[simp] theorem State.decoded_tempStatus (s : State) : s.decoded.tempStatus = s.outTempStatus := rfl
@[simp] theorem State.decoded_id (s : State) : s.decoded.id = s.outId := rfl
@[simp] theorem State.decoded_checksum (s : State) : s.decoded.checksum = s.outChecksum := rfl

end Sys2Proof.Machine
end

