-- ==== Sys2Proof/Laws/Exec.lean ====
section
/-! SUPPORT. What each meaning and one step can do, said once. -/

namespace Sys2Proof.Machine

theorem exec_encode (t x : BitVec 32) (p : PowerStatus) (n : BitVec 32) (s : State) :
    exec (.encode t x p n) s =
      .next ((s.putPacket (serialize (encodedReading t x p n))).respond Config.opEncode) := rfl

theorem exec_decode_of_eight {len : BitVec 16} (h : lenChk len = true) (b : Buffer) (s : State) :
    exec (.decode b len) s = .next ((s.putDecoded (deserialize b) Config.errNone).respond Config.opDecode) := by
  simp [exec, execDecode, h]

theorem exec_decode_of_ne {len : BitVec 16} (h : lenChk len = false) (b : Buffer) (s : State) :
    exec (.decode b len) s = .next (s.raiseMalformedLength.respond Config.opDecode) := by
  simp [exec, execDecode, h]

theorem exec_validate (r : Reading) (s : State) :
    exec (.validate r) s = .next ((s.putOk (validityBit r)).respond Config.opValidate) := rfl

theorem exec_describe (r : Reading) (s : State) :
    exec (.describe r) s =
      .next ((s.putDisplay (unpackPower r.tempStatus) (wholeDegrees (unpackTemp r.tempStatus))
        (tenthsDigit (unpackTemp r.tempStatus)) (validityBit r)).respond Config.opDescribe) := rfl

/-- Everything a command can do: it answers next, and the next state is one of five. -/
theorem exec_cases {i : Instr} {s t : State} (h : exec i s = .next t) :
    (∃ ts x p n, i = .encode ts x p n ∧
        t = (s.putPacket (serialize (encodedReading ts x p n))).respond Config.opEncode) ∨
    (∃ b len, i = .decode b len ∧ lenChk len = true ∧
        t = (s.putDecoded (deserialize b) Config.errNone).respond Config.opDecode) ∨
    (∃ b len, i = .decode b len ∧ lenChk len = false ∧ t = s.raiseMalformedLength.respond Config.opDecode) ∨
    (∃ r, i = .validate r ∧ t = (s.putOk (validityBit r)).respond Config.opValidate) ∨
    (∃ r, i = .describe r ∧
        t = (s.putDisplay (unpackPower r.tempStatus) (wholeDegrees (unpackTemp r.tempStatus))
          (tenthsDigit (unpackTemp r.tempStatus)) (validityBit r)).respond Config.opDescribe) := by
  cases i with
  | encode ts x p n => exact .inl ⟨ts, x, p, n, rfl, by cases h; rfl⟩
  | decode b len =>
    cases hl : lenChk len with
    | true => rw [exec_decode_of_eight hl] at h; cases h; exact .inr (.inl ⟨b, len, rfl, hl, rfl⟩)
    | false => rw [exec_decode_of_ne hl] at h; cases h; exact .inr (.inr (.inl ⟨b, len, rfl, hl, rfl⟩))
  | validate r => exact .inr (.inr (.inr (.inl ⟨r, rfl, by cases h; rfl⟩)))
  | describe r => exact .inr (.inr (.inr (.inr ⟨r, rfl, by cases h; rfl⟩)))

/-- No command touches what the requester will present. -/
theorem exec_inputs {i : Instr} {s t : State} (h : exec i s = .next t) : t.inputs = s.inputs := by
  obtain ⟨_, _, _, _, -, rfl⟩ | ⟨_, _, -, -, rfl⟩ | ⟨_, _, -, -, rfl⟩ | ⟨_, -, rfl⟩ | ⟨_, -, rfl⟩ := exec_cases h <;> simp

theorem edge_of_reset {p : Ports} (h : decode p = .reset) (s : State) : edge p s = .next s.resetRegisters := by
  simp [edge, h]

theorem edge_of_idle {p : Ports} (h : decode p = .idle) (s : State) : edge p s = .next s.idleStep := by
  simp [edge, h]

theorem edge_of_command {p : Ports} {i : Instr} (h : decode p = .command i) (s : State) : edge p s = exec i s := by
  simp [edge, h]

/-- Everything an edge can do. -/
theorem edge_cases {p : Ports} {s t : State} (h : edge p s = .next t) :
    (decode p = .reset ∧ t = s.resetRegisters) ∨ (decode p = .idle ∧ t = s.idleStep) ∨
      (∃ i, decode p = .command i ∧ exec i s = .next t) := by
  cases hd : decode p with
  | reset => rw [edge_of_reset hd] at h; cases h; exact .inl ⟨rfl, rfl⟩
  | idle => rw [edge_of_idle hd] at h; cases h; exact .inr (.inl ⟨rfl, rfl⟩)
  | command i => rw [edge_of_command hd] at h; exact .inr (.inr ⟨i, rfl, h⟩)

/-- Everything a step can do. -/
theorem step_cases {s t : State} (h : step s = .next t) :
    (decode s.sampled = .reset ∧ t = s.dropInput.resetRegisters) ∨
    (decode s.sampled = .idle ∧ t = s.dropInput.idleStep) ∨
    (∃ i, decode s.sampled = .command i ∧ exec i s.dropInput = .next t) :=
  edge_cases h

/-- A run of one step more, when the first step answers next. -/
theorem run_succ (M : Host.Core) (k : Nat) {s t : M.State} (h : M.step s = .next t) : M.run (k + 1) s = M.run k t := by
  simp [Host.Core.run, h]

theorem core_run_succ {s t : State} (h : step s = .next t) (k : Nat) :
    Host.Core.run Sys2Proof.core (k + 1) s = Host.Core.run Sys2Proof.core k t :=
  run_succ Sys2Proof.core k h

end Sys2Proof.Machine
end

