-- ==== Sys2Proof/Laws/Ops.lean ====
section
/-! SUPPORT. What the shared operations do, said once: lanes of MemWrite, bytes of MemRead, SERIALIZE and DESERIALIZE by lane, the byte sum, the clamp and the packed field. -/

namespace Sys2Proof.Machine

/-! ## The buffer -/

theorem memWrite_getElem (b : Buffer) (off n : Nat) (h : off + n ≤ 8) (v : BitVec (8 * n)) (k : Nat) (hk : k < 8) :
    (memWrite b off n h v)[k] =
      if off ≤ k ∧ k < off + n then v.extractLsb' (8 * (n - 1 - (k - off))) 8 else b[k] := by
  simp [memWrite]

theorem memRead_succ (b : Buffer) (off n : Nat) (h : off + (n + 1) ≤ 8) :
    memRead b off (n + 1) h = (memRead b off n (by omega) ++ b[off + n]'(by omega) : BitVec (8 * n + 8)) := rfl

/-- SERIALIZE by lane (R93). -/
theorem serialize_lanes (r : Reading) :
    serialize r =
      #v[r.timestamp.extractLsb' 24 8, r.timestamp.extractLsb' 16 8, r.timestamp.extractLsb' 8 8,
        r.timestamp.extractLsb' 0 8, r.tempStatus.extractLsb' 8 8, r.tempStatus.extractLsb' 0 8, r.id, r.checksum] := by
  apply Vector.ext
  intro k hk
  interval_cases k <;> simp [serialize, memWrite]

/-- MemRead as a number: big-endian, the last byte least significant (R44). -/
theorem memRead_succ_toNat (b : Buffer) (off n : Nat) (h : off + (n + 1) ≤ 8) :
    (memRead b off (n + 1) h).toNat = 256 * (memRead b off n (by omega)).toNat + (b[off + n]'(by omega)).toNat := by
  have hb := (b[off + n]'(by omega)).isLt
  have ho := Nat.two_pow_add_eq_or_of_lt hb (memRead b off n (by omega)).toNat
  rw [memRead_succ, BitVec.toNat_append, Nat.shiftLeft_eq, Nat.mul_comm _ (2 ^ 8), ← ho]

theorem memRead_zero_toNat (b : Buffer) (off : Nat) (h : off + 0 ≤ 8) : (memRead b off 0 h).toNat = 0 := rfl

/-- The timestamp field as a number (R111). -/
theorem deserialize_timestamp_toNat (b : Buffer) :
    (deserialize b).timestamp.toNat = 256 * (256 * (256 * b[0].toNat + b[1].toNat) + b[2].toNat) + b[3].toNat := by
  simp [deserialize, memRead_succ_toNat, memRead_zero_toNat]

/-- The temp_status field as a number (R111). -/
theorem deserialize_tempStatus_toNat (b : Buffer) :
    (deserialize b).tempStatus.toNat = 256 * b[4].toNat + b[5].toNat := by
  simp [deserialize, memRead_succ_toNat, memRead_zero_toNat]

@[simp] theorem deserialize_id (b : Buffer) : (deserialize b).id = b[6] := by
  apply BitVec.eq_of_toNat_eq
  simp [deserialize, memRead_succ_toNat, memRead_zero_toNat]

@[simp] theorem deserialize_checksum (b : Buffer) : (deserialize b).checksum = b[7] := by
  apply BitVec.eq_of_toNat_eq
  simp [deserialize, memRead_succ_toNat, memRead_zero_toNat]

/-! ## The checksum -/

theorem sum8_toNat {n : Nat} (b : Vector Byte n) : (sum8 b).toNat = (b.toList.map BitVec.toNat).sum % 256 := by
  simp [sum8]

theorem neg8_toNat (s : Byte) : (neg8 s).toNat = (256 - s.toNat) % 256 := by
  simp [neg8]

theorem csumGen_toNat (b : Vector Byte 7) :
    (csumGen b).toNat = (256 - (b.toList.map BitVec.toNat).sum % 256) % 256 := by
  rw [csumGen, neg8_toNat, sum8_toNat]

/-- The byte sum of a buffer, lane by lane. -/
theorem buffer_sum (b : Buffer) :
    (b.toList.map BitVec.toNat).sum =
      b[0].toNat + b[1].toNat + b[2].toNat + b[3].toNat + b[4].toNat + b[5].toNat + b[6].toNat + b[7].toNat := by
  have h : b = #v[b[0], b[1], b[2], b[3], b[4], b[5], b[6], b[7]] := by
    apply Vector.ext
    intro k hk
    interval_cases k <;> rfl
  rw [h]
  simp
  omega

theorem csumOk_iff (b : Buffer) : csumOk b = true ↔ (b.toList.map BitVec.toNat).sum % 256 = 0 := by
  rw [← sum8_toNat, csumOk, beq_iff_eq, ← BitVec.toNat_inj]; rfl

theorem validityBit_eq_one_iff (r : Reading) : validityBit r = 1 ↔ csumOk (serialize r) = true := by
  unfold validityBit validReading
  split <;> simp_all

theorem validityBit_eq_zero_iff (r : Reading) : validityBit r = 0 ↔ csumOk (serialize r) = false := by
  unfold validityBit validReading
  split <;> simp_all

/-! ## Operands -/

theorem clamp_le (x : BitVec 32) : clamp x ≤ 1200 := by
  unfold clamp; simp only [Config.tempMin, Config.tempMax]; split <;> [skip; split] <;> omega

theorem le_clamp (x : BitVec 32) : 200 ≤ clamp x := by
  unfold clamp; simp only [Config.tempMin, Config.tempMax]; split <;> [skip; split] <;> omega

/-- CLAMP as one formula on the signed reading (R90). -/
theorem clamp_eq (x : BitVec 32) : (clamp x : Int) = max 200 (min x.toInt 1200) := by
  unfold clamp; simp only [Config.tempMin, Config.tempMax]; split <;> [skip; split] <;> omega

theorem trunc8_toNat (n : BitVec 32) : (trunc8 n).toNat = n.toNat % 256 := by
  simp [trunc8, BitVec.extractLsb'_toNat]

theorem lenChk_iff (len : BitVec 16) : lenChk len = true ↔ len.toNat = 8 := by
  simp [lenChk, ← BitVec.toNat_inj, Config.pktLen]

/-- PACK as a number, on the 15-bit range (R92, R141). -/
theorem pack_toNat (c : Nat) (hc : c < 32768) (p : PowerStatus) :
    (pack c p).toNat = c + 32768 * p.toBit.toNat := by
  have hm : c &&& 32767 = c := by
    rw [show (32767 : Nat) = 2 ^ 15 - 1 from rfl, Nat.and_two_pow_sub_one_eq_mod]; omega
  have ho : c ||| 32768 = c + 32768 := by
    have h := Nat.two_pow_add_eq_or_of_lt (by omega : c < 2 ^ 15) 1
    norm_num at h; rw [Nat.or_comm, ← h, Nat.add_comm]
  have hc' : c % 65536 = c := by omega
  cases p <;> simp [pack, PowerStatus.toBit, hc', hm, ho]

theorem unpackPower_toNat (s : BitVec 16) : (unpackPower s).toNat = s.toNat / 32768 := by
  have h := s.isLt
  simp [unpackPower, BitVec.extractLsb'_toNat, Nat.shiftRight_eq_div_pow]
  omega

theorem unpackTemp_toNat (s : BitVec 16) : (unpackTemp s).toNat = s.toNat % 32768 := by
  simp [unpackTemp, BitVec.extractLsb'_toNat]

theorem wholeDegrees_toNat (m : BitVec 15) : (wholeDegrees m).toNat = m.toNat / 10 := by
  have h := m.isLt
  simp [wholeDegrees]
  omega

theorem tenthsDigit_toNat (m : BitVec 15) : (tenthsDigit m).toNat = m.toNat % 10 := by
  simp [tenthsDigit]
  omega

end Sys2Proof.Machine
end

