-- ==== Sys2Proof/Laws/PerInstr.lean ====
section
/-! SUPPORT. Statements for all commands as syntax, one lemma per constructor. -/

namespace Sys2Proof.Laws

/-- A command's printed sample is in canonical form and carries the command's own opcode (30_encoding.md R68, R69). -/
def CanonicalEncoding.Statement (i : Instr) : Prop :=
  (Sys2Proof.encode i).wellFormed = true ∧ (Sys2Proof.encode i).cmdOp = i.opcode

theorem CanonicalEncoding.encode (timestamp temp : BitVec 32) (power : PowerStatus) (id : BitVec 32) :
    CanonicalEncoding.Statement (.encode timestamp temp power id) :=
  ⟨rfl, rfl⟩

theorem CanonicalEncoding.decode (buf : Buffer) (len : BitVec 16) : CanonicalEncoding.Statement (.decode buf len) :=
  ⟨rfl, rfl⟩

theorem CanonicalEncoding.validate (reading : Reading) : CanonicalEncoding.Statement (.validate reading) :=
  ⟨rfl, rfl⟩

theorem CanonicalEncoding.describe (reading : Reading) : CanonicalEncoding.Statement (.describe reading) :=
  ⟨rfl, rfl⟩

end Sys2Proof.Laws
end

