-- ==== Sys2Proof/Tests/Slice0.lean ====
section
/-! SUPPORT. Small tests, their expected values from the spec's own vectors (95_test_vectors.md), the ill-formed samples, and for each statement with hypotheses the witnesses that meet them. -/

namespace Sys2Proof.Tests

open Sys2Proof Sys2Proof.Machine Sys2Proof.Safety

/-- The next state of an outcome, if it has one. -/
def after (o : Host.Outcome State Fault Refusal) : Option State :=
  match o with
  | .next s => some s
  | .fault _ => none
  | .refused _ => none

/-- The state after one sample presented to the reset state. -/
def run (p : Ports) : Option State := after (step (State.reset.present p))

/-! ## WellFormed: each check refuses an ill-formed sample, and printed commands pass -/

/-- A printed command of each format (R73). -/
def e0 : Ports := encode (.encode 1 2 .battery 3)
def b0 : Ports := encode (.decode #v[1, 2, 3, 4, 5, 6, 7, 8] 8)
def r0 : Ports := encode (.describe ⟨1, 2, 3, 4⟩)

theorem test_wellFormed_accepts_printed : e0.wellFormed = true ∧ b0.wellFormed = true ∧ r0.wellFormed = true := by decide

theorem test_wellFormed_refuses_rst : { e0 with rst := 1 }.wellFormed = false := by decide

theorem test_wellFormed_refuses_no_command : { e0 with cmdValid := 0 }.wellFormed = false := by decide

theorem test_wellFormed_refuses_format_E_ports :
    { b0 with inTimestamp := 1 }.wellFormed = false ∧ { b0 with inTemp := 1 }.wellFormed = false ∧
      { b0 with inPower := 1 }.wellFormed = false ∧ { r0 with inId := 1 }.wellFormed = false := by decide

theorem test_wellFormed_refuses_format_B_ports :
    { e0 with inBuf := #v[0, 0, 0, 0, 0, 0, 0, 1] }.wellFormed = false ∧ { r0 with inLen := 8 }.wellFormed = false := by
  decide

theorem test_wellFormed_refuses_format_R_ports :
    { e0 with rdTimestamp := 1 }.wellFormed = false ∧ { e0 with rdTempStatus := 1 }.wellFormed = false ∧
      { b0 with rdId := 1 }.wellFormed = false ∧ { b0 with rdChecksum := 1 }.wellFormed = false := by decide

/-! ## Decoding: samples and table words written out from the spec -/

/-- Program 1, step 3: `cmd_op=0b00 in_timestamp=0x6553F10A in_temp=0x000004E2 in_power=1 in_id=0x00000100`. -/
theorem test_decode_encode :
    decode ⟨0, 1, 0b00, 0x6553F10A, 0x000004E2, 1, 0x00000100, Vector.replicate 8 0, 0, 0, 0, 0, 0⟩ =
      .command (.encode 1700000010 1250 .battery 256) := by decide

/-- Program 3, step 3: `cmd_op=0b01 in_buf=0x6553F10080EA07E5 in_len=0x0005`. -/
theorem test_decode_decode :
    decode ⟨0, 1, 0b01, 0, 0, 0, 0, Buffer.ofBits 0x6553F10080EA07E5, 0x0005, 0, 0, 0, 0⟩ =
      .command (.decode #v[0x65, 0x53, 0xF1, 0x00, 0x80, 0xEA, 0x07, 0xE5] 5) := by decide

/-- Program 2, step 2: `cmd_op=0b10 rd_timestamp=0x6553F100 rd_temp_status=0x80EB rd_id=0x07 rd_checksum=0xE5`. -/
theorem test_decode_validate :
    decode ⟨0, 1, 0b10, 0, 0, 0, 0, Vector.replicate 8 0, 0, 0x6553F100, 0x80EB, 0x07, 0xE5⟩ =
      .command (.validate ⟨0x6553F100, 0x80EB, 0x07, 0xE5⟩) := by decide

/-- Program 2, step 3: the same operands with `cmd_op=0b11`. -/
theorem test_decode_describe :
    decode ⟨0, 1, 0b11, 0, 0, 0, 0, Vector.replicate 8 0, 0, 0x6553F100, 0x80EB, 0x07, 0xE5⟩ =
      .command (.describe ⟨0x6553F100, 0x80EB, 0x07, 0xE5⟩) := by decide

/-- The four rows of opcode_table.json: match 0 to 3 in bits 1:0. -/
theorem test_decode_table_rows :
    decodeTableWord 8 0 = some (.encode 0 0 .network 0) ∧
      decodeTableWord 8 1 = some (.decode (Vector.replicate 8 0) 0) ∧
      decodeTableWord 8 2 = some (.validate ⟨0, 0, 0, 0⟩) ∧ decodeTableWord 8 3 = some (.describe ⟨0, 0, 0, 0⟩) := by
  decide

/-- The first step after reset runs the word placed for it: VALIDATE of the zero Reading (V-V3). -/
theorem test_withFetchWord_runs :
    (after (step (State.reset.withFetchWord 8 2))).map (fun s => (s.rspValid, s.rspOp, s.outOk)) = some (1, 2, 1) := by
  decide

/-- Program 1, step 3 in text (R73). -/
theorem test_read_text :
    Text.read "encode 1700000010, 1250, BATTERY, 256".toList = some (.command (.encode 1700000010 1250 .battery 256)) := by
  decide

/-- Program 4, step 2 in text, and a line with a byte missing. -/
theorem test_read_text_bytes :
    Text.read "DECODE FF FF FF FF 80 C8 FF BD, 8".toList =
        some (.command (.decode #v[0xFF, 0xFF, 0xFF, 0xFF, 0x80, 0xC8, 0xFF, 0xBD] 8)) ∧
      Text.read "DECODE FF FF FF FF 80 C8 FF, 8".toList = none := by decide

/-! ## Commands, with the spec's vectors -/

/-- V-E18: every byte distinct, shows the byte order. -/
theorem test_encode_byte_order :
    (run (encode (.encode 0x01020304 773 .network 0x06))).map (·.outBuf) =
      some #v[0x01, 0x02, 0x03, 0x04, 0x03, 0x05, 0x06, 0xE8] := by decide

/-- V-RT4: negative timestamp, clamped temperature, battery, truncated id. -/
theorem test_encode_clamps_and_truncates :
    (run (encode (.encode 0xFFFFFFFF 50 .battery 511))).map (·.outBuf) =
      some #v[0xFF, 0xFF, 0xFF, 0xFF, 0x80, 0xC8, 0xFF, 0xBD] := by decide

/-- V-D2: byte order. -/
theorem test_decode_fields :
    (run (encode (.decode #v[0x01, 0x02, 0x03, 0x04, 0x03, 0x05, 0x06, 0xE8] 8))).map
        (fun s => (s.outTimestamp, s.outTempStatus, s.outId, s.outChecksum, s.outErr)) =
      some (0x01020304, 0x0305, 0x06, 0xE8, 0) := by decide

/-- V-D13: the low byte of the length is 8, the length is not. -/
theorem test_decode_length_264 :
    (run (encode (.decode #v[0, 0, 0, 0, 0, 0xC8, 0, 0x38] 264))).map (fun s => (s.outTempStatus, s.outErr)) =
      some (0, 1) := by decide

/-- V-V2. -/
theorem test_validate_valid : (run (encode (.validate ⟨0x6553F100, 0x80EB, 0x07, 0xE5⟩))).map (·.outOk) = some 1 := by decide

/-- V-M4: the power bit flipped. -/
theorem test_validate_mutated : (run (encode (.validate ⟨0, 0x80C8, 0, 0x38⟩))).map (·.outOk) = some 0 := by decide

/-- V-S4: a corrupted Reading is still described. -/
theorem test_describe_invalid :
    (run (encode (.describe ⟨0x6553F100, 0x80EA, 0x07, 0xE5⟩))).map
        (fun s => (s.outPower, s.outWhole, s.outTenths, s.outValidity)) =
      some (1, 23, 4, 0) := by decide

/-- V-S8: all ones in the field. -/
theorem test_describe_largest :
    (run (encode (.describe ⟨0, 0xFFFF, 0, 0x02⟩))).map (fun s => (s.outPower, s.outWhole, s.outTenths, s.outValidity)) =
      some (1, 3276, 7, 1) := by decide

/-- A state whose registers are all non-zero, as no reset leaves them. -/
def busy : State :=
  ⟨1, 0b10, #v[0, 0, 0, 0, 0, 0xC8, 0, 0x38], 1, 2, 3, 4, 1, 1, 1, 20, 5, 1, []⟩

/-- V-R2: reset wins over an ENCODE in the same step. -/
theorem test_reset_wins : after (step (busy.present { e0 with rst := 1 })) = some State.reset := by decide

/-- V-R3: an idle step clears `rsp_valid` and holds the rest. -/
theorem test_idle_holds : after (step (busy.present Ports.idle)) = some { busy with rspValid := 0 } := by decide

/-! ## Witnesses: values that meet the hypotheses of each statement that has some -/

theorem witness_CanonicalWordRoundTrip :
    (Ports.ofWord (encodeWord (.decode #v[1, 2, 3, 4, 5, 6, 7, 0xFF] 0xFFFF))).wellFormed = true ∧
      decodeWord (encodeWord (.decode #v[1, 2, 3, 4, 5, 6, 7, 0xFF] 0xFFFF)) =
        some (.decode #v[1, 2, 3, 4, 5, 6, 7, 0xFF] 0xFFFF) := by decide

theorem witness_OpcodeSelectsCommand :
    e0.rst = 0 ∧ e0.cmdValid = 1 ∧ e0.cmdOp = 0b00 ∧ b0.cmdOp = 0b01 ∧ b0.rst = 0 ∧ b0.cmdValid = 1 ∧
      (encode (.validate ⟨1, 2, 3, 4⟩)).rst = 0 ∧ (encode (.validate ⟨1, 2, 3, 4⟩)).cmdValid = 1 ∧
      (encode (.validate ⟨1, 2, 3, 4⟩)).cmdOp = 0b10 ∧ r0.cmdOp = 0b11 ∧ r0.rst = 0 ∧ r0.cmdValid = 1 := by decide

/-- Two samples of ENCODE that differ in ports ENCODE does not name. -/
theorem witness_UnnamedPortsChangeNothing_encode :
    e0 ≠ { e0 with inLen := 7, rdId := 9 } ∧ e0.rst = 0 ∧ e0.cmdValid = 1 ∧
      e0.cmdOp = { e0 with inLen := 7, rdId := 9 }.cmdOp ∧ e0.inId = { e0 with inLen := 7, rdId := 9 }.inId := by decide

theorem witness_UnnamedPortsChangeNothing_decode :
    b0 ≠ { b0 with inTemp := 7, rdId := 9 } ∧ b0.rst = 0 ∧ b0.cmdValid = 1 ∧ b0.cmdOp = 0b01 ∧
      b0.inBuf = { b0 with inTemp := 7, rdId := 9 }.inBuf ∧ b0.inLen = { b0 with inTemp := 7, rdId := 9 }.inLen := by decide

theorem witness_UnnamedPortsChangeNothing_describe :
    r0 ≠ { r0 with inTemp := 7, inLen := 9 } ∧ r0.rst = 0 ∧ r0.cmdValid = 1 ∧ r0.cmdOp = 0b11 ∧
      r0.rdTimestamp = { r0 with inTemp := 7, inLen := 9 }.rdTimestamp := by decide

theorem witness_UnnamedPortsChangeNothing_validate :
    (encode (.validate ⟨1, 2, 3, 4⟩)).cmdOp = 0b10 ∧
      (encode (.validate ⟨1, 2, 3, 4⟩)).rdId = { encode (.validate ⟨1, 2, 3, 4⟩) with inTemp := 7 }.rdId ∧
      encode (.validate ⟨1, 2, 3, 4⟩) ≠ { encode (.validate ⟨1, 2, 3, 4⟩) with inTemp := 7 } := by decide

/-- With no command even `cmd_op` may differ. -/
theorem witness_UnnamedPortsChangeNothing_idle :
    Ports.idle ≠ { Ports.idle with cmdOp := 3, inId := 1 } ∧
      Ports.idle.rst = { Ports.idle with cmdOp := 3, inId := 1 }.rst ∧
      Ports.idle.cmdValid = { Ports.idle with cmdOp := 3, inId := 1 }.cmdValid ∧ ¬ Ports.idle.cmdValid = 1 := by decide

theorem witness_StepRunsSampledCommand :
    decode (busy.present e0).sampled = .command (.encode 1 2 .battery 3) := by decide

theorem witness_StepFollowsRuleOfOneEdge :
    { e0 with rst := 1 }.rst = 1 ∧ Ports.idle.rst = 0 ∧ Ports.idle.cmdValid = 0 ∧ e0.rst = 0 ∧ e0.cmdValid = 1 ∧
      e0.cmdOp = 0b00 ∧ b0.cmdOp = 0b01 ∧ (encode (.validate ⟨1, 2, 3, 4⟩)).cmdOp = 0b10 ∧ r0.cmdOp = 0b11 := by decide

theorem witness_NothingPresentedIdles : busy.inputs = [] := by decide

theorem witness_ResetStepClearsEveryRegister :
    { e0 with rst := 1 }.rst = 1 ∧ decode b0 = .command (.decode #v[1, 2, 3, 4, 5, 6, 7, 8] 8) := by decide

/-- A state that meets the invariant with a packet in `out_buf`, an error standing and a full display. -/
theorem witness_StepKeepsRegisterBounds :
    RegisterInv ⟨1, 0b11, #v[0xFF, 0xFF, 0xFF, 0xFF, 0x84, 0xB0, 0xFF, 0xD1], 0, 0, 0, 0, 1, 1, 1, 3276, 7, 1, [e0]⟩ ∧
      (after (step ⟨1, 0b11, #v[0xFF, 0xFF, 0xFF, 0xFF, 0x84, 0xB0, 0xFF, 0xD1], 0, 0, 0, 0, 1, 1, 1, 3276, 7, 1,
        [e0]⟩)).isSome = true := by decide

/-- The top of the buffer: 4 bytes at offset 4, the last byte written, the last byte before it left alone. -/
theorem witness_BufferReadAfterWrite : (4 : Nat) + 4 ≤ 8 ∧ 3 < 4 ∧ 3 < 8 ∧ ((3 : Nat) < 4 ∨ 4 + 4 ≤ 3) := by decide

/-- A 1-byte access in the middle leaves the byte above it alone. -/
theorem witness_BufferReadAfterWrite_above : (6 : Nat) + 1 ≤ 8 ∧ 0 < 1 ∧ 7 < 8 ∧ ((7 : Nat) < 6 ∨ 6 + 1 ≤ 7) := by decide

theorem witness_ClampSaturatesAtBothBounds :
    (199 : BitVec 32).toInt < 200 ∧ 1200 < (1201 : BitVec 32).toInt ∧ 200 ≤ (200 : BitVec 32).toInt ∧
      (1200 : BitVec 32).toInt ≤ 1200 ∧ 200 ≤ (1200 : BitVec 32).toInt ∧ (200 : BitVec 32).toInt ≤ 1200 := by decide

theorem witness_TruncationKeepsLowByte :
    (0x100 : BitVec 32).extractLsb' 0 8 = (0 : BitVec 32).extractLsb' 0 8 ∧ (0x100 : BitVec 32) ≠ 0 := by decide

theorem witness_PackPutsFlagInBitFifteen : 200 ≤ 200 ∧ 200 ≤ 1200 ∧ 1200 ≤ 1200 := by decide

theorem witness_EncodedTemperatureInRange : ∃ s', exec (.encode 0 0x80000000 .battery 0) busy = .next s' :=
  ⟨_, rfl⟩

theorem witness_DecodeWritesFieldsOrError :
    (8 : BitVec 16).toNat = 8 ∧ (7 : BitVec 16).toNat ≠ 8 ∧ (9 : BitVec 16).toNat ≠ 8 ∧ (264 : BitVec 16).toNat ≠ 8 := by
  decide

theorem witness_MalformedLengthOnlyFromDecode_raised :
    State.reset.outErr ≠ 1 ∧ (after (edge { b0 with inLen := 9 } State.reset)).map (·.outErr) = some 1 ∧
      (after (edge { b0 with inLen := 7 } State.reset)).map (·.outErr) = some 1 := by decide

theorem witness_MalformedLengthOnlyFromDecode_raises :
    { b0 with inLen := 9 }.rst = 0 ∧ { b0 with inLen := 9 }.cmdValid = 1 ∧ { b0 with inLen := 9 }.cmdOp = 0b01 ∧
      { b0 with inLen := 9 }.inLen ≠ 8 ∧ ∃ t, edge { b0 with inLen := 9 } busy = .next t :=
  ⟨rfl, rfl, rfl, by decide, _, rfl⟩

theorem witness_ErrorHeldUntilDecodeOrReset_reset :
    { b0 with rst := 1 }.rst = 1 ∧ ∃ t, edge { b0 with rst := 1 } busy = .next t :=
  ⟨rfl, _, rfl⟩

theorem witness_ErrorHeldUntilDecodeOrReset_held :
    e0.rst = 0 ∧ ¬ (e0.cmdValid = 1 ∧ e0.cmdOp = 0b01) ∧ ∃ t, edge e0 busy = .next t :=
  ⟨rfl, by decide, _, rfl⟩

theorem witness_ErrorHeldUntilDecodeOrReset_written :
    b0.rst = 0 ∧ b0.cmdValid = 1 ∧ b0.cmdOp = 0b01 ∧ b0.inLen = 8 ∧ { b0 with inLen := 7 }.inLen ≠ 8 ∧
      ∃ t, edge b0 busy = .next t :=
  ⟨rfl, rfl, rfl, rfl, by decide, _, rfl⟩

theorem witness_FailedDecodeFieldsValidate : (7 : BitVec 16) ≠ 8 := by decide

theorem witness_ByteSumModulo :
    (#v[1, 2, 3] : Vector Byte 3).toList.Perm (#v[3, 1, 2] : Vector Byte 3).toList := by decide

theorem witness_SingleByteChangeDetected :
    csumOk #v[0, 0, 0, 0, 0, 0xC8, 0, 0x38] = true ∧
      (0x39 : Byte) ≠ (#v[0, 0, 0, 0, 0, 0xC8, 0, 0x38] : Buffer)[(7 : Fin 8)] := by decide

/-- V-M5: two bytes changed, sum kept. -/
theorem witness_CancellingChangesUndetected :
    (3 : Fin 8) ≠ 5 ∧
      ((1 : Byte).toNat + (0xC7 : Byte).toNat) % 256 =
        ((#v[0, 0, 0, 0, 0, 0xC8, 0, 0x38] : Buffer)[(3 : Fin 8)].toNat +
          (#v[0, 0, 0, 0, 0, 0xC8, 0, 0x38] : Buffer)[(5 : Fin 8)].toNat) % 256 := by decide

theorem witness_CancellingChangesUndetected_reordered :
    (#v[0, 0, 0, 0, 0xC8, 0, 0, 0x38] : Buffer).toList.Perm (#v[0, 0, 0, 0, 0, 0xC8, 0, 0x38] : Buffer).toList := by decide

theorem witness_UnpackUndoesPack : 0 ≤ 32767 ∧ 32767 ≤ 32767 := by decide

theorem witness_WrittenValuesDependOnOperandsOnly :
    (Instr.encode 1 2 .battery 3).opcode = 0b00 ∧ (Instr.decode (Vector.replicate 8 0) 8).opcode = 0b01 ∧
      (Instr.validate ⟨1, 2, 3, 4⟩).opcode = 0b10 ∧ (Instr.describe ⟨1, 2, 3, 4⟩).opcode = 0b11 ∧ State.reset ≠ busy := by
  decide

theorem witness_CommandsAreIdempotent : ∃ t, exec (.describe ⟨1, 2, 3, 4⟩) busy = .next t :=
  ⟨_, rfl⟩

theorem witness_LaterCommandWinsOthersCommute :
    (Instr.encode 1 2 .battery 3).opcode = (Instr.encode 4 5 .network 6).opcode ∧
      (Instr.encode 1 2 .battery 3).opcode ≠ (Instr.validate ⟨1, 2, 3, 4⟩).opcode := by decide

theorem witness_InstancesDoNotInterfere : (0 : Fin 2) ≠ 1 ∧ (#v[State.reset, busy] : Instances 2)[(0 : Fin 2)] ≠ busy := by
  decide

theorem witness_ReceiveDecodesValidatesDescribes : (8 : BitVec 16) = 8 ∧ (0xFFFF : BitVec 16) ≠ 8 := by decide

end Sys2Proof.Tests
end

section
/-! Commands do not interfere with one another: what a command writes comes from its operands alone (00_scope.md R12). -/

namespace Sys2Proof

@[simp] theorem Instr.opcode_encode (t x : BitVec 32) (p : PowerStatus) (n : BitVec 32) :
    (Instr.encode t x p n).opcode = 0b00 := rfl
@[simp] theorem Instr.opcode_decode (b : Buffer) (len : BitVec 16) : (Instr.decode b len).opcode = 0b01 := rfl
@[simp] theorem Instr.opcode_validate (r : Reading) : (Instr.validate r).opcode = 0b10 := rfl
@[simp] theorem Instr.opcode_describe (r : Reading) : (Instr.describe r).opcode = 0b11 := rfl

/-- Settles O43, command by command: each next state is a write of operand values followed by `respond`. DECODE has one such
write for each outcome of its length check, which reads `in_len` only and so goes the same way from both states. -/
theorem writtenValuesDependOnOperandsOnly : Obligations.WrittenValuesDependOnOperandsOnly := by
  intro i s s'
  cases i with
  | encode ts x p n =>
    exact ⟨_, _, Machine.exec_encode ts x p n s, Machine.exec_encode ts x p n s', by simp⟩
  | decode b len =>
    cases hlen : Machine.lenChk len with
    | true =>
      exact ⟨_, _, Machine.exec_decode_of_eight hlen b s, Machine.exec_decode_of_eight hlen b s', by simp⟩
    | false =>
      exact ⟨_, _, Machine.exec_decode_of_ne hlen b s, Machine.exec_decode_of_ne hlen b s', by simp⟩
  | validate r => exact ⟨_, _, Machine.exec_validate r s, Machine.exec_validate r s', by simp⟩
  | describe r => exact ⟨_, _, Machine.exec_describe r s, Machine.exec_describe r s', by simp⟩

end Sys2Proof
end

section
/-! The rule of one edge (10_state.md R36): the decoder's answer for each value of `rst`, `cmd_valid` and `cmd_op`, that every
edge answers next, what each command leaves unchanged, and the reset values (R28). -/

namespace Sys2Proof

theorem decode_of_rst_one {p : Ports} (hrst : p.rst = 1) : decode p = .reset := by simp [decode, hrst]

theorem decode_of_cmdValid_zero {p : Ports} (hrst : p.rst = 0) (hvalid : p.cmdValid = 0) : decode p = .idle := by
  simp [decode, hrst, hvalid]

theorem decode_of_cmdValid_one {p : Ports} (hrst : p.rst = 0) (hvalid : p.cmdValid = 1) :
    decode p = .command (decodeCommand p) := by
  simp [decode, hrst, hvalid]

theorem decodeCommand_of_opEncode {p : Ports} (hop : p.cmdOp = 0b00) :
    decodeCommand p = .encode p.inTimestamp p.inTemp (.ofBit p.inPower) p.inId := by
  simp [decodeCommand, hop]

theorem decodeCommand_of_opDecode {p : Ports} (hop : p.cmdOp = 0b01) : decodeCommand p = .decode p.inBuf p.inLen := by
  simp [decodeCommand, hop]

theorem decodeCommand_of_opValidate {p : Ports} (hop : p.cmdOp = 0b10) : decodeCommand p = .validate p.rdReading := by
  simp [decodeCommand, hop]

theorem decodeCommand_of_opDescribe {p : Ports} (hop : p.cmdOp = 0b11) : decodeCommand p = .describe p.rdReading := by
  simp [decodeCommand, hop]

namespace Machine

theorem exec_answers_next (i : Instr) (s : State) : ∃ t, exec i s = .next t := by
  cases i with
  | encode ts x p n => exact ⟨_, exec_encode ts x p n s⟩
  | decode b len => exact ⟨_, rfl⟩
  | validate r => exact ⟨_, exec_validate r s⟩
  | describe r => exact ⟨_, exec_describe r s⟩

theorem edge_answers_next (p : Ports) (s : State) : ∃ t, edge p s = .next t := by
  cases hd : decode p with
  | reset => exact ⟨_, edge_of_reset hd s⟩
  | idle => exact ⟨_, edge_of_idle hd s⟩
  | command i => rw [edge_of_command hd]; exact exec_answers_next i s

/-- With a command presented the edge is the meaning of the command that `cmd_op` selects (R36). -/
theorem edge_of_cmdValid_one {p : Ports} (hrst : p.rst = 0) (hvalid : p.cmdValid = 1) (s : State) :
    edge p s = exec (decodeCommand p) s :=
  edge_of_command (decode_of_cmdValid_one hrst hvalid) s

theorem exec_encode_frame {ts x : BitVec 32} {p : PowerStatus} {n : BitVec 32} {s t : State}
    (h : exec (.encode ts x p n) s = .next t) :
    t = { s with rspValid := 1, rspOp := 0b00, outBuf := t.outBuf } := by
  rw [exec_encode] at h
  cases h
  rfl

/-- Both outcomes of the length check write the five DECODE registers and no other. -/
theorem exec_decode_frame {b : Buffer} {len : BitVec 16} {s t : State} (h : exec (.decode b len) s = .next t) :
    t = { s with
          rspValid := 1, rspOp := 0b01, outTimestamp := t.outTimestamp, outTempStatus := t.outTempStatus
          outId := t.outId, outChecksum := t.outChecksum, outErr := t.outErr } := by
  cases hlen : lenChk len with
  | true => rw [exec_decode_of_eight hlen] at h; cases h; rfl
  | false => rw [exec_decode_of_ne hlen] at h; cases h; rfl

theorem exec_validate_frame {r : Reading} {s t : State} (h : exec (.validate r) s = .next t) :
    t = { s with rspValid := 1, rspOp := 0b10, outOk := t.outOk } := by
  rw [exec_validate] at h
  cases h
  rfl

theorem exec_describe_frame {r : Reading} {s t : State} (h : exec (.describe r) s = .next t) :
    t = { s with
          rspValid := 1, rspOp := 0b11, outPower := t.outPower, outWhole := t.outWhole
          outTenths := t.outTenths, outValidity := t.outValidity } := by
  rw [exec_describe] at h
  cases h
  rfl

theorem State.reset_outBuf_lane (k : Fin 8) : State.reset.outBuf[k] = 0 := by
  simp [State.reset]

end Machine

open Machine

/-- Settles O8: an edge always answers next, and the values of `rst`, `cmd_valid` and `cmd_op` decide which rule the answer
follows: the reset step, the idle step, or the selected command with its frame. -/
theorem stepFollowsRuleOfOneEdge : Obligations.StepFollowsRuleOfOneEdge := by
  intro s p
  obtain ⟨t, ht⟩ := edge_answers_next p s
  refine ⟨t, ht, fun hrst => ?reset, fun hrst hvalid => ?idle, fun hrst hvalid hop => ?encode,
    fun hrst hvalid hop => ?decode, fun hrst hvalid hop => ?validate, fun hrst hvalid hop => ?describe⟩
  case reset =>
    rw [edge_of_reset (decode_of_rst_one hrst)] at ht
    cases ht
    rfl
  case idle =>
    rw [edge_of_idle (decode_of_cmdValid_zero hrst hvalid)] at ht
    cases ht
    rfl
  case encode =>
    rw [edge_of_cmdValid_one hrst hvalid, decodeCommand_of_opEncode hop] at ht
    exact ⟨ht, exec_encode_frame ht⟩
  case decode =>
    rw [edge_of_cmdValid_one hrst hvalid, decodeCommand_of_opDecode hop] at ht
    exact ⟨ht, exec_decode_frame ht⟩
  case validate =>
    rw [edge_of_cmdValid_one hrst hvalid, decodeCommand_of_opValidate hop] at ht
    exact ⟨ht, exec_validate_frame ht⟩
  case describe =>
    rw [edge_of_cmdValid_one hrst hvalid, decodeCommand_of_opDescribe hop] at ht
    exact ⟨ht, exec_describe_frame ht⟩

/-- Settles O11: each register's reset value is written out in `State.reset`, and every lane of its `out_buf` is 0. -/
theorem resetValuesAreZero : Obligations.ResetValuesAreZero :=
  ⟨rfl, rfl, State.reset_outBuf_lane, rfl, rfl, rfl, rfl, rfl, rfl, rfl, rfl, rfl, rfl⟩

end Sys2Proof
end

section
/-! The opcode map (30_encoding.md R68) and the ports a command does not name (R69): an edge sees its sample only through the
decoder, the decoder reads only the named ports, and a canonical sample has every other port zero. -/

namespace Sys2Proof

theorem opcode_cases (op : BitVec 2) : op = 0b00 ∨ op = 0b01 ∨ op = 0b10 ∨ op = 0b11 := by
  revert op; decide

/-- Settles O4: the decoder's answer to a presented command, opcode by opcode. -/
theorem opcodeSelectsCommand : Obligations.OpcodeSelectsCommand := by
  intro p hrst hvalid
  rw [decode_of_cmdValid_one hrst hvalid]
  refine ⟨fun hop => ?encode, fun hop => ?decode, fun hop => ?validate, fun hop => ?describe⟩
  case encode => rw [decodeCommand_of_opEncode hop, PowerStatus.ofBit]
  case decode => rw [decodeCommand_of_opDecode hop]
  case validate => rw [decodeCommand_of_opValidate hop, Ports.rdReading]
  case describe => rw [decodeCommand_of_opDescribe hop, Ports.rdReading]

/-- `q` has the `cmd_op` of `p` and the same values at the ports of the format that opcode names (R67). -/
def Ports.NamedPortsAgree (p q : Ports) : Prop :=
  p.cmdOp = q.cmdOp ∧
  (p.cmdOp = 0b00 →
    p.inTimestamp = q.inTimestamp ∧ p.inTemp = q.inTemp ∧ p.inPower = q.inPower ∧ p.inId = q.inId) ∧
  (p.cmdOp = 0b01 → p.inBuf = q.inBuf ∧ p.inLen = q.inLen) ∧
  (p.cmdOp = 0b10 ∨ p.cmdOp = 0b11 →
    p.rdTimestamp = q.rdTimestamp ∧ p.rdTempStatus = q.rdTempStatus ∧ p.rdId = q.rdId ∧ p.rdChecksum = q.rdChecksum)

theorem decodeCommand_congr {p q : Ports} (h : p.NamedPortsAgree q) : decodeCommand p = decodeCommand q := by
  obtain ⟨hop, hE, hB, hR⟩ := h
  have hReading (hopR : p.cmdOp = 0b10 ∨ p.cmdOp = 0b11) : p.rdReading = q.rdReading := by
    obtain ⟨hts, htemp, hid, hsum⟩ := hR hopR
    simp only [Ports.rdReading, hts, htemp, hid, hsum]
  obtain h0 | h1 | h2 | h3 := opcode_cases p.cmdOp
  · obtain ⟨hts, htemp, hpower, hid⟩ := hE h0
    rw [decodeCommand_of_opEncode h0, decodeCommand_of_opEncode (hop ▸ h0), hts, htemp, hpower, hid]
  · obtain ⟨hbuf, hlen⟩ := hB h1
    rw [decodeCommand_of_opDecode h1, decodeCommand_of_opDecode (hop ▸ h1), hbuf, hlen]
  · rw [decodeCommand_of_opValidate h2, decodeCommand_of_opValidate (hop ▸ h2), hReading (.inl h2)]
  · rw [decodeCommand_of_opDescribe h3, decodeCommand_of_opDescribe (hop ▸ h3), hReading (.inr h3)]

/-- A reset step reads `rst` only, an idle step `rst` and `cmd_valid`, a command the ports it names. -/
theorem decode_congr {p q : Ports} (hrst : p.rst = q.rst) (hvalid : p.cmdValid = q.cmdValid)
    (h : p.rst = 0 → p.cmdValid = 1 → p.NamedPortsAgree q) : decode p = decode q := by
  obtain hr | hr := BitVec.eq_zero_or_eq_one p.rst
  · obtain hv | hv := BitVec.eq_zero_or_eq_one p.cmdValid
    · rw [decode_of_cmdValid_zero hr hv, decode_of_cmdValid_zero (hrst ▸ hr) (hvalid ▸ hv)]
    · rw [decode_of_cmdValid_one hr hv, decode_of_cmdValid_one (hrst ▸ hr) (hvalid ▸ hv), decodeCommand_congr (h hr hv)]
  · rw [decode_of_rst_one hr, decode_of_rst_one (hrst ▸ hr)]

theorem Machine.edge_congr {p q : Ports} (h : decode p = decode q) (s : Machine.State) :
    Machine.edge p s = Machine.edge q s := by
  simp only [Machine.edge, h]

namespace Ports

theorem formatEZero_iff {p : Ports} :
    p.formatEZero = true ↔ p.inTimestamp = 0 ∧ p.inTemp = 0 ∧ p.inPower = 0 ∧ p.inId = 0 := by
  simp [formatEZero, and_assoc]

theorem formatBZero_iff {p : Ports} : p.formatBZero = true ↔ p.inBuf = Vector.replicate 8 0 ∧ p.inLen = 0 := by
  simp [formatBZero]

theorem formatRZero_iff {p : Ports} :
    p.formatRZero = true ↔ p.rdTimestamp = 0 ∧ p.rdTempStatus = 0 ∧ p.rdId = 0 ∧ p.rdChecksum = 0 := by
  simp [formatRZero, and_assoc]

/-- In a canonical sample the ports of every format but the opcode's own are zero. -/
theorem unnamedPortsZero_of_wellFormed {p : Ports} (h : p.wellFormed = true) :
    (p.cmdOp ≠ 0b00 → p.formatEZero = true) ∧ (p.cmdOp ≠ 0b01 → p.formatBZero = true) ∧
      (p.cmdOp = 0b00 ∨ p.cmdOp = 0b01 → p.formatRZero = true) := by
  rw [wellFormed, Bool.and_eq_true] at h
  obtain ⟨-, hzero⟩ := h
  split_ifs at hzero with hopE hopB
  · obtain ⟨hB, hR⟩ := Bool.and_eq_true_iff.mp hzero
    exact ⟨fun hne => absurd hopE hne, fun _ => hB, fun _ => hR⟩
  · obtain ⟨hE, hR⟩ := Bool.and_eq_true_iff.mp hzero
    exact ⟨fun _ => hE, fun hne => absurd hopB hne, fun _ => hR⟩
  · obtain ⟨hE, hB⟩ := Bool.and_eq_true_iff.mp hzero
    exact ⟨fun _ => hE, fun _ => hB, fun hop => (hop.elim hopE hopB).elim⟩

end Ports

/-- Printed commands are canonical (R69). -/
theorem encode_wellFormed (i : Instr) : (encode i).wellFormed = true := by
  cases i with
  | encode ts x p n => exact (Laws.CanonicalEncoding.encode ts x p n).1
  | decode b len => exact (Laws.CanonicalEncoding.decode b len).1
  | validate r => exact (Laws.CanonicalEncoding.validate r).1
  | describe r => exact (Laws.CanonicalEncoding.describe r).1

/-- Settles O5: samples that agree on the named ports decode alike, so their edges are alike; printed commands are canonical,
so their unnamed ports are zero. -/
theorem unnamedPortsChangeNothing : Obligations.UnnamedPortsChangeNothing := by
  refine ⟨fun s p q hrst hvalid hnamed => ?sameStep, fun i => ?printed⟩
  case sameStep => exact Machine.edge_congr (decode_congr hrst hvalid hnamed) s
  case printed =>
    obtain ⟨hE, hB, hR⟩ := Ports.unnamedPortsZero_of_wellFormed (encode_wellFormed i)
    exact ⟨fun hop => Ports.formatEZero_iff.mp (hE hop), fun hop => Ports.formatBZero_iff.mp (hB hop),
      fun hop => Ports.formatRZero_iff.mp (hR hop)⟩

end Sys2Proof
end

section
/-! SERIALIZE and DESERIALIZE undo each other (40_serializer.md R93; 41_deserializer.md R111): each field is the join of the
bytes it was cut into, and each lane is a slice of the field it was joined into. -/

namespace Sys2Proof

theorem Reading.eq_of_fields {r r' : Reading} (timestamp : r.timestamp = r'.timestamp)
    (tempStatus : r.tempStatus = r'.tempStatus) (id : r.id = r'.id) (checksum : r.checksum = r'.checksum) : r = r' := by
  cases r
  cases r'
  rw [Reading.mk.injEq]
  exact ⟨timestamp, tempStatus, id, checksum⟩

theorem join_two_bytes (v : BitVec 16) : (v.extractLsb' 8 8 ++ v.extractLsb' 0 8 : BitVec 16) = v := by
  simp only [← BitVec.toNat_inj, BitVec.extractLsb'_toNat, toNat_append_eq, Nat.shiftRight_eq_div_pow]
  omega

theorem join_four_bytes (v : BitVec 32) :
    (v.extractLsb' 24 8 ++ v.extractLsb' 16 8 ++ v.extractLsb' 8 8 ++ v.extractLsb' 0 8 : BitVec 32) = v := by
  simp only [← BitVec.toNat_inj, BitVec.extractLsb'_toNat, toNat_append_eq, Nat.shiftRight_eq_div_pow]
  omega

theorem slices_of_two_bytes (a b : Byte) : (a ++ b).extractLsb' 8 8 = a ∧ (a ++ b).extractLsb' 0 8 = b := by
  have ha := a.isLt
  have hb := b.isLt
  simp only [← BitVec.toNat_inj, BitVec.extractLsb'_toNat, toNat_append_eq, Nat.shiftRight_eq_div_pow]
  omega

theorem slices_of_four_bytes (a b c d : Byte) :
    (a ++ b ++ c ++ d).extractLsb' 24 8 = a ∧ (a ++ b ++ c ++ d).extractLsb' 16 8 = b ∧
      (a ++ b ++ c ++ d).extractLsb' 8 8 = c ∧ (a ++ b ++ c ++ d).extractLsb' 0 8 = d := by
  have ha := a.isLt
  have hb := b.isLt
  have hc := c.isLt
  have hd := d.isLt
  simp only [← BitVec.toNat_inj, BitVec.extractLsb'_toNat, toNat_append_eq, Nat.shiftRight_eq_div_pow]
  omega

namespace Machine

theorem deserialize_timestamp (b : Buffer) : (deserialize b).timestamp = b[0] ++ b[1] ++ b[2] ++ b[3] := by
  apply BitVec.eq_of_toNat_eq
  simp only [deserialize_timestamp_toNat, toNat_append_eq, Nat.reducePow]

theorem deserialize_tempStatus (b : Buffer) : (deserialize b).tempStatus = b[4] ++ b[5] := by
  apply BitVec.eq_of_toNat_eq
  simp only [deserialize_tempStatus_toNat, toNat_append_eq, Nat.reducePow]

/-- Lanes 0 to 3 are the timestamp, big-endian. -/
theorem serialize_timestamp_lanes (r : Reading) :
    (serialize r)[0] = r.timestamp.extractLsb' 24 8 ∧ (serialize r)[1] = r.timestamp.extractLsb' 16 8 ∧
      (serialize r)[2] = r.timestamp.extractLsb' 8 8 ∧ (serialize r)[3] = r.timestamp.extractLsb' 0 8 := by
  rw [serialize_lanes]
  exact ⟨rfl, rfl, rfl, rfl⟩

theorem serialize_tempStatus_lanes (r : Reading) :
    (serialize r)[4] = r.tempStatus.extractLsb' 8 8 ∧ (serialize r)[5] = r.tempStatus.extractLsb' 0 8 := by
  rw [serialize_lanes]
  exact ⟨rfl, rfl⟩

@[simp] theorem serialize_id (r : Reading) : (serialize r)[6] = r.id := by
  rw [serialize_lanes]
  rfl

@[simp] theorem serialize_checksum (r : Reading) : (serialize r)[7] = r.checksum := by
  rw [serialize_lanes]
  rfl

@[simp] theorem deserialize_serialize (r : Reading) : deserialize (serialize r) = r := by
  obtain ⟨h0, h1, h2, h3⟩ := serialize_timestamp_lanes r
  obtain ⟨h4, h5⟩ := serialize_tempStatus_lanes r
  apply Reading.eq_of_fields
  case timestamp => rw [deserialize_timestamp, h0, h1, h2, h3]; exact join_four_bytes r.timestamp
  case tempStatus => rw [deserialize_tempStatus, h4, h5]; exact join_two_bytes r.tempStatus
  case id => rw [deserialize_id, serialize_id]
  case checksum => rw [deserialize_checksum, serialize_checksum]

@[simp] theorem serialize_deserialize (b : Buffer) : serialize (deserialize b) = b := by
  obtain ⟨h0, h1, h2, h3⟩ := slices_of_four_bytes b[0] b[1] b[2] b[3]
  obtain ⟨h4, h5⟩ := slices_of_two_bytes b[4] b[5]
  rw [serialize_lanes, deserialize_timestamp, deserialize_tempStatus, deserialize_id, deserialize_checksum,
    h0, h1, h2, h3, h4, h5]
  apply Vector.ext
  intro k hk
  interval_cases k <;> rfl

theorem serialize_bijective : Function.Bijective serialize :=
  Function.bijective_iff_has_inverse.mpr ⟨deserialize, deserialize_serialize, serialize_deserialize⟩

end Machine

open Machine

/-- Settles O17: the bytes are those of `serialize_lanes`, the fields the joins of the lanes, and with an inverse on both
sides SERIALIZE is bijective. -/
theorem serializeIsBijection : Obligations.SerializeIsBijection := by
  refine ⟨fun r => ?bytes, fun b => ?fields, deserialize_serialize, serialize_deserialize, serialize_bijective, ?sample⟩
  case bytes => rw [serialize_lanes]; rfl
  case fields =>
    exact ⟨deserialize_timestamp b, deserialize_tempStatus b, deserialize_id b, deserialize_checksum b⟩
  case sample => decide

end Sys2Proof
end

section
/-! ENCODE and the functions it applies to its operands (40_serializer.md R90, R91, R95): the clamp by its three cases, the
low byte of the id, and the packet lane by lane. -/

namespace Sys2Proof.Machine

theorem clamp_of_lt {x : BitVec 32} (h : x.toInt < 200) : clamp x = 200 := by
  have := clamp_eq x
  omega

theorem clamp_of_gt {x : BitVec 32} (h : 1200 < x.toInt) : clamp x = 1200 := by
  have := clamp_eq x
  omega

theorem clamp_of_mem_range {x : BitVec 32} (hmin : 200 ≤ x.toInt) (hmax : x.toInt ≤ 1200) :
    (clamp x : Int) = x.toInt := by
  have := clamp_eq x
  omega

theorem clamp_eq_ite (x : BitVec 32) :
    (clamp x : Int) = if x.toInt < 200 then 200 else if 1200 < x.toInt then 1200 else x.toInt := by
  split_ifs with hlt hgt
  · rw [clamp_of_lt hlt]; rfl
  · rw [clamp_of_gt hgt]; rfl
  · exact clamp_of_mem_range (not_lt.mp hlt) (not_lt.mp hgt)

/-- The temperature field of a packet: the clamped temperature, with the power bit at weight `0x8000` (R92, R95). -/
theorem encodedReading_tempStatus_toNat (t x : BitVec 32) (p : PowerStatus) (n : BitVec 32) :
    (encodedReading t x p n).tempStatus.toNat = clamp x + 32768 * p.toBit.toNat :=
  pack_toNat (clamp x) (Nat.lt_of_le_of_lt (clamp_le x) (by decide)) p

/-- Lanes 4 and 5 are the temperature field, big-endian. -/
theorem serialize_tempStatus_toNat (r : Reading) :
    256 * (serialize r)[4].toNat + (serialize r)[5].toNat = r.tempStatus.toNat := by
  rw [← deserialize_tempStatus_toNat, deserialize_serialize]

/-- The byte sum that ENCODE's checksum negates is the sum of the packet's lanes 0 to 6 (R95). -/
theorem checksummedBytes_sum (r : Reading) :
    ((checksummedBytes r.timestamp r.tempStatus r.id).toList.map BitVec.toNat).sum =
      (serialize r)[0].toNat + (serialize r)[1].toNat + (serialize r)[2].toNat + (serialize r)[3].toNat
        + (serialize r)[4].toNat + (serialize r)[5].toNat + (serialize r)[6].toNat := by
  simp [checksummedBytes, serialize_lanes, Nat.add_assoc]

end Sys2Proof.Machine

namespace Sys2Proof

open Machine

/-- Settles O18: the three cases of the clamp, its two bounds, and the rule's corner cases by evaluation. -/
theorem clampSaturatesAtBothBounds : Obligations.ClampSaturatesAtBothBounds :=
  ⟨fun x => ⟨clamp_of_lt, clamp_of_gt, clamp_of_mem_range, le_clamp x, clamp_le x⟩, by decide⟩

/-- Settles O19: TRUNC8 is the slice 7:0 by definition, so it reads nothing else of its operand. -/
theorem truncationKeepsLowByte : Obligations.TruncationKeepsLowByte :=
  ⟨fun n => ⟨rfl, trunc8_toNat n⟩, fun _ _ hlow => hlow, by decide⟩

/-- Settles O21: the packet is SERIALIZE of the Reading ENCODE builds; its lanes 0 to 3 are cut from the timestamp, lanes 4
and 5 hold the clamped and flagged temperature, lane 6 the truncated id, and lane 7 negates the sum of the others. -/
theorem encodeWritesPacket : Obligations.EncodeWritesPacket := by
  intro t x p n s
  obtain ⟨h0, h1, h2, h3⟩ := serialize_timestamp_lanes (encodedReading t x p n)
  refine ⟨serialize (encodedReading t x p n), exec_encode t x p n s, h0, h1, h2, h3, ?temperature, ?id, ?checksum⟩
  case temperature =>
    rw [serialize_tempStatus_toNat, encodedReading_tempStatus_toNat, ← clamp_eq_ite]
    cases p <;> simp [PowerStatus.toBit]
  case id => rw [serialize_id]; exact trunc8_toNat n
  case checksum =>
    rw [serialize_checksum, ← checksummedBytes_sum]
    exact csumGen_toNat _

end Sys2Proof
end

section
/-! DECODE by the length it is given (41_deserializer.md R110, R112): the joined fields of the buffer, or the error. -/

namespace Sys2Proof

namespace Machine

theorem deserialize_eq (b : Buffer) :
    deserialize b = ⟨b[0] ++ b[1] ++ b[2] ++ b[3], b[4] ++ b[5], b[6], b[7]⟩ :=
  Reading.eq_of_fields (deserialize_timestamp b) (deserialize_tempStatus b) (deserialize_id b) (deserialize_checksum b)

theorem lenChk_eq_false_iff (len : BitVec 16) : lenChk len = false ↔ len.toNat ≠ 8 := by
  rw [← Bool.not_eq_true, lenChk_iff]

end Machine

open Machine

/-- Settles O25: the length check decides between DECODE's two writes. The one of length 8 puts the fields of DESERIALIZE,
which are joins of lanes; the other raises the error and mentions no lane. -/
theorem decodeWritesFieldsOrError : Obligations.DecodeWritesFieldsOrError := by
  refine ⟨lenChk_iff, fun b len s => ⟨fun hlen => ?fields, fun hlen => ?error⟩⟩
  case fields =>
    rw [exec_decode_of_eight ((lenChk_iff len).mpr hlen), deserialize_eq]
    rfl
  case error =>
    rw [exec_decode_of_ne ((lenChk_eq_false_iff len).mpr hlen)]
    rfl

end Sys2Proof
end

section
/-! VALIDATE (42_checksum_engine.md R128, R129): the validity bit by the sum of the eight serialized bytes. -/

namespace Sys2Proof

namespace Machine

theorem serialize_sum (r : Reading) :
    ((serialize r).toList.map BitVec.toNat).sum =
      (r.timestamp.extractLsb' 24 8).toNat + (r.timestamp.extractLsb' 16 8).toNat +
        (r.timestamp.extractLsb' 8 8).toNat + (r.timestamp.extractLsb' 0 8).toNat +
        (r.tempStatus.extractLsb' 8 8).toNat + (r.tempStatus.extractLsb' 0 8).toNat + r.id.toNat +
        r.checksum.toNat := by
  obtain ⟨h0, h1, h2, h3⟩ := serialize_timestamp_lanes r
  obtain ⟨h4, h5⟩ := serialize_tempStatus_lanes r
  rw [buffer_sum, h0, h1, h2, h3, h4, h5, serialize_id, serialize_checksum]

theorem validityBit_eq_ite (r : Reading) :
    validityBit r = if ((serialize r).toList.map BitVec.toNat).sum % 256 = 0 then 1 else 0 := by
  simp only [validityBit, validReading, csumOk_iff]

end Machine

open Machine

/-- Settles O37: VALIDATE puts the validity bit, which tests the sum of the serialized bytes, and the other registers are the
frame of `putOk` and `respond`. -/
theorem validateTestsByteSum : Obligations.ValidateTestsByteSum := by
  intro r s
  rw [exec_validate, validityBit_eq_ite, serialize_sum]
  rfl

end Sys2Proof
end

section
/-! DESCRIBE (43_describe.md R142, R144): the quotient and the digit with their bounds, and the four display registers. -/

namespace Sys2Proof

namespace Machine

theorem wholeDegrees_le (m : BitVec 15) : (wholeDegrees m).toNat ≤ 3276 := by
  have := m.isLt
  rw [wholeDegrees_toNat]
  omega

theorem tenthsDigit_le (m : BitVec 15) : (tenthsDigit m).toNat ≤ 9 := by
  rw [tenthsDigit_toNat]
  omega

theorem ten_mul_wholeDegrees_add_tenthsDigit (m : BitVec 15) :
    10 * (wholeDegrees m).toNat + (tenthsDigit m).toNat = m.toNat := by
  rw [wholeDegrees_toNat, tenthsDigit_toNat]
  exact Nat.div_add_mod m.toNat 10

end Machine

open Machine

/-- Settles O38: neither the quotient nor the remainder is cut by its width, the bounds follow from `m < 2 ^ 15`, and the
rule's corner cases hold by evaluation. -/
theorem quotientAndTenthsDigit : Obligations.QuotientAndTenthsDigit :=
  ⟨fun m => ⟨wholeDegrees_toNat m, tenthsDigit_toNat m, ten_mul_wholeDegrees_add_tenthsDigit m, wholeDegrees_le m,
    tenthsDigit_le m⟩, by decide⟩

/-- Settles O40: DESCRIBE puts the two unpacked parts of the temperature field, the second one divided by 10, and the
validity bit, which tests the sum of the serialized bytes; every other register is in the command's frame. -/
theorem describeWritesDisplay : Obligations.DescribeWritesDisplay := by
  intro r s
  refine ⟨_, exec_describe r s, exec_describe_frame (exec_describe r s), ?power, ?whole, ?tenths, ?validity⟩
  case power => exact unpackPower_toNat r.tempStatus
  case whole => exact unpackTemp_toNat r.tempStatus ▸ wholeDegrees_toNat (unpackTemp r.tempStatus)
  case tenths => exact unpackTemp_toNat r.tempStatus ▸ tenthsDigit_toNat (unpackTemp r.tempStatus)
  case validity => exact serialize_sum r ▸ validityBit_eq_ite r

end Sys2Proof
end

section
/-! The one error (60_exceptions.md R156, R162): an edge writes `out_err` at a reset, 0, or at a DECODE, by its length; at any
other sample the register holds. That the error has no other cause follows from these four cases. -/

namespace Sys2Proof

namespace Machine

theorem lenChk_eq_false_of_ne {len : BitVec 16} (hlen : len ≠ 8) : lenChk len = false :=
  beq_false_of_ne hlen

/-- With a DECODE presented the edge is the meaning of DECODE at the sampled buffer and length. -/
theorem edge_of_opDecode {p : Ports} (hrst : p.rst = 0) (hvalid : p.cmdValid = 1) (hop : p.cmdOp = 0b01) (s : State) :
    edge p s = exec (.decode p.inBuf p.inLen) s := by
  rw [edge_of_cmdValid_one hrst hvalid, decodeCommand_of_opDecode hop]

theorem edge_of_opDecode_of_eight {p : Ports} (hrst : p.rst = 0) (hvalid : p.cmdValid = 1) (hop : p.cmdOp = 0b01)
    (hlen : p.inLen = 8) (s : State) :
    edge p s = .next ((s.putDecoded (deserialize p.inBuf) Config.errNone).respond Config.opDecode) := by
  rw [edge_of_opDecode hrst hvalid hop, hlen, exec_decode_of_eight rfl]

theorem edge_of_opDecode_of_ne {p : Ports} (hrst : p.rst = 0) (hvalid : p.cmdValid = 1) (hop : p.cmdOp = 0b01)
    (hlen : p.inLen ≠ 8) (s : State) : edge p s = .next (s.raiseMalformedLength.respond Config.opDecode) := by
  rw [edge_of_opDecode hrst hvalid hop, exec_decode_of_ne (lenChk_eq_false_of_ne hlen)]

/-- `out_err` is in the frame of the other three commands. -/
theorem exec_outErr_of_ne_opDecode {p : Ports} {s t : State} (hop : p.cmdOp ≠ 0b01)
    (h : exec (decodeCommand p) s = .next t) : t.outErr = s.outErr := by
  obtain hE | hD | hV | hS := opcode_cases p.cmdOp
  · rw [decodeCommand_of_opEncode hE] at h
    rw [exec_encode_frame h]
  · exact absurd hD hop
  · rw [decodeCommand_of_opValidate hV] at h
    rw [exec_validate_frame h]
  · rw [decodeCommand_of_opDescribe hS] at h
    rw [exec_describe_frame h]

theorem edge_outErr_of_not_decode {p : Ports} {s t : State} (hrst : p.rst = 0)
    (hdecode : ¬(p.cmdValid = 1 ∧ p.cmdOp = 0b01)) (h : edge p s = .next t) : t.outErr = s.outErr := by
  obtain hvalid | hvalid := BitVec.eq_zero_or_eq_one p.cmdValid
  · rw [edge_of_idle (decode_of_cmdValid_zero hrst hvalid)] at h
    cases h
    exact State.idleStep_outErr s
  · rw [edge_of_cmdValid_one hrst hvalid] at h
    exact exec_outErr_of_ne_opDecode (fun hop => hdecode ⟨hvalid, hop⟩) h

end Machine

open Machine

/-- Settles O29: the reset step and DECODE's two writes each fix `out_err`; an idle step and the other commands hold it. -/
theorem errorHeldUntilDecodeOrReset : Obligations.ErrorHeldUntilDecodeOrReset := by
  intro s t p h
  refine ⟨fun hrst => ?reset, fun hrst hvalid hop hlen => ?success, fun hrst hvalid hop hlen => ?failure,
    fun hrst hdecode => edge_outErr_of_not_decode hrst hdecode h⟩
  case reset =>
    rw [edge_of_reset (decode_of_rst_one hrst)] at h
    cases h
    exact State.resetRegisters_outErr s
  case success =>
    rw [edge_of_opDecode_of_eight hrst hvalid hop hlen] at h
    cases h
    rfl
  case failure =>
    rw [edge_of_opDecode_of_ne hrst hvalid hop hlen] at h
    cases h
    rfl

/-- Settles O28: of the four cases of O29 only the failed DECODE turns another `out_err` into 1, and its edge is the shared
error operation. -/
theorem malformedLengthOnlyFromDecode : Obligations.MalformedLengthOnlyFromDecode := by
  intro s t p h
  obtain ⟨reset, success, -, held⟩ := errorHeldUntilDecodeOrReset s t p h
  refine ⟨fun hs ht => ?onlyCause, fun hrst hvalid hop hlen => ?effect⟩
  case onlyCause =>
    have not_zero : t.outErr ≠ 0 := by rw [ht]; decide
    have hrst : p.rst = 0 := (BitVec.eq_zero_or_eq_one p.rst).resolve_right fun hr => not_zero (reset hr)
    obtain ⟨hvalid, hop⟩ : p.cmdValid = 1 ∧ p.cmdOp = 0b01 :=
      by_contra fun hdecode => hs (held hrst hdecode ▸ ht)
    exact ⟨hrst, hvalid, hop, fun hlen => not_zero (success hrst hvalid hop hlen)⟩
  case effect =>
    rw [edge_of_opDecode_of_ne hrst hvalid hop hlen] at h
    cases h
    rfl

end Sys2Proof
end

section
/-! Reset (70_reset_and_hazards.md R175, R176): the sample's `rst` alone decides a reset step, so neither a command presented
with it nor the registers before it reach the next state. -/

namespace Sys2Proof

namespace Machine

@[simp] theorem State.resetRegisters_outBuf_lane (s : State) (k : Fin 8) : s.resetRegisters.outBuf[k] = 0 :=
  State.reset_outBuf_lane k

theorem edge_of_rst_one {p : Ports} (hrst : p.rst = 1) (s : State) : edge p s = .next s.resetRegisters :=
  edge_of_reset (decode_of_rst_one hrst) s

end Machine

open Machine

/-- Settles O10: `rst = 1` decodes to a reset step before `cmd_valid` is looked at, so the next state is `resetRegisters`, and
the edge after it runs a command as from any other state. -/
theorem resetStepClearsEveryRegister : Obligations.ResetStepClearsEveryRegister := by
  intro s p hrst
  have runs_command (q : Ports) (i : Instr) (hq : decode q = .command i) :
      edge q s.resetRegisters = exec i s.resetRegisters := edge_of_command hq _
  exact ⟨s.resetRegisters, edge_of_rst_one hrst s, by simpa using runs_command⟩

end Sys2Proof
end

section
/-! The drawings of a buffer and of a command's ports lose nothing (20_memory.md R42; log entry 3): each part of a drawing is
the slice it was joined from, and the slices of a vector join to that vector. -/

namespace Sys2Proof

/-- Neighbouring slices join to the slice that covers both. -/
theorem join_slices {w : Nat} (v : BitVec w) (s m n k : Nat) (h : k = s + m) :
    v.extractLsb' k n ++ v.extractLsb' s m = v.extractLsb' s (n + m) := by
  subst h
  ext i hi
  simp only [BitVec.getElem_append, BitVec.getElem_extractLsb']
  split_ifs with him
  · rfl
  · rw [Nat.add_assoc, Nat.add_sub_cancel' (Nat.le_of_not_lt him)]

theorem Buffer.toBits_slice (b : Buffer) (k : Fin 8) : (Buffer.toBits b).extractLsb' (56 - 8 * k.val) 8 = b[k] := by
  fin_cases k <;>
    simp (disch := decide) only [Buffer.toBits, Nat.reduceMul, Nat.reduceSub, extract_append_left, extract_append_right,
      BitVec.extractLsb'_eq_self] <;>
    rfl

theorem Buffer.ofBits_getElem (v : BitVec 64) (k : Nat) (hk : k < 8) :
    (Buffer.ofBits v)[k] = v.extractLsb' (56 - 8 * k) 8 := by
  simp [Buffer.ofBits]

@[simp] theorem Buffer.ofBits_toBits (b : Buffer) : Buffer.ofBits (Buffer.toBits b) = b := by
  apply Vector.ext
  intro k hk
  rw [Buffer.ofBits_getElem]
  exact Buffer.toBits_slice b ⟨k, hk⟩

@[simp] theorem Buffer.toBits_ofBits (v : BitVec 64) : Buffer.toBits (Buffer.ofBits v) = v := by
  simp (disch := decide) only [Buffer.toBits, Buffer.ofBits_getElem, join_slices]
  exact BitVec.extractLsb'_eq_self

theorem Buffer.toBits_serialize (r : Reading) :
    Buffer.toBits (Machine.serialize r) = r.timestamp ++ r.tempStatus ++ r.id ++ r.checksum := by
  have hts := Machine.deserialize_timestamp_toNat (Machine.serialize r)
  have htemp := Machine.deserialize_tempStatus_toNat (Machine.serialize r)
  rw [Machine.deserialize_serialize] at hts htemp
  apply BitVec.eq_of_toNat_eq
  simp only [toNat_append_eq, Buffer.toBits_toNat, Machine.serialize_id, Machine.serialize_checksum, hts, htemp]
  omega

/-- Each port of a command's sample is its slice of the command word (log entry 3). -/
theorem Ports.toWord_slices (p : Ports) :
    p.toWord.extractLsb' 0 2 = p.cmdOp ∧ p.toWord.extractLsb' 2 32 = p.inTimestamp ∧
      p.toWord.extractLsb' 34 32 = p.inTemp ∧ p.toWord.extractLsb' 66 1 = p.inPower ∧
      p.toWord.extractLsb' 67 32 = p.inId ∧ p.toWord.extractLsb' 99 64 = Buffer.toBits p.inBuf ∧
      p.toWord.extractLsb' 163 16 = p.inLen ∧ p.toWord.extractLsb' 179 32 = p.rdTimestamp ∧
      p.toWord.extractLsb' 211 16 = p.rdTempStatus ∧ p.toWord.extractLsb' 227 8 = p.rdId ∧
      p.toWord.extractLsb' 235 8 = p.rdChecksum := by
  refine ⟨?_, ?_, ?_, ?_, ?_, ?_, ?_, ?_, ?_, ?_, ?_⟩ <;>
    simp (disch := decide) only [Ports.toWord, Nat.reduceSub, extract_append_left, extract_append_right,
      BitVec.extractLsb'_eq_self]

theorem Ports.ofWord_toWord {p : Ports} (hrst : p.rst = 0) (hvalid : p.cmdValid = 1) : Ports.ofWord p.toWord = p := by
  obtain ⟨hop, ht, hx, hp, hn, hb, hlen, hrt, hrs, hri, hrk⟩ := p.toWord_slices
  rw [Ports.ofWord, hop, ht, hx, hp, hn, hb, hlen, hrt, hrs, hri, hrk, Buffer.ofBits_toBits, ← hrst, ← hvalid]

theorem Ports.toWord_ofWord (w : BitVec Ports.wordBits) : (Ports.ofWord w).toWord = w := by
  simp (disch := decide) only [Ports.toWord, Ports.ofWord, Buffer.toBits_ofBits, join_slices]
  exact BitVec.extractLsb'_eq_self

/-- The command word's sample is a presented command, so the decoder answers by the opcode (R36, R68). -/
theorem decodeWord_eq (w : BitVec Ports.wordBits) : decodeWord w = some (decodeCommand (Ports.ofWord w)) := by
  rw [decodeWord, decode_of_cmdValid_one rfl rfl]

theorem decodeWord_encodeWord (i : Instr) : decodeWord (encodeWord i) = some i := by
  have hi := decode_encode i
  rw [decode_of_cmdValid_one (encode_rst i) (encode_cmdValid i), StepEvent.command.injEq] at hi
  rw [decodeWord_eq, encodeWord, Ports.ofWord_toWord (encode_rst i) (encode_cmdValid i), hi]

theorem Ports.presented_of_wellFormed {p : Ports} (h : p.wellFormed = true) : p.rst = 0 ∧ p.cmdValid = 1 := by
  simp only [Ports.wellFormed, Bool.and_eq_true, beq_iff_eq] at h
  exact h.1

/-- A canonical sample is the printed form of the command it decodes to: the named ports are its operands, the others zero
(R69). -/
theorem encode_decodeCommand {p : Ports} (h : p.wellFormed = true) : encode (decodeCommand p) = p := by
  obtain ⟨hE, hB, hR⟩ := Ports.unnamedPortsZero_of_wellFormed h
  simp only [Ports.formatEZero_iff, Ports.formatBZero_iff, Ports.formatRZero_iff] at hE hB hR
  obtain ⟨hrst, hvalid⟩ := Ports.presented_of_wellFormed h
  obtain hop | hop | hop | hop := opcode_cases p.cmdOp
  · rw [decodeCommand_of_opEncode hop]
    cases p
    simp_all [encode, Ports.idle]
  · rw [decodeCommand_of_opDecode hop]
    cases p
    simp_all [encode, Ports.idle]
  · rw [decodeCommand_of_opValidate hop]
    cases p
    simp_all [encode, Ports.idle, Ports.rdReading]
  · rw [decodeCommand_of_opDescribe hop]
    cases p
    simp_all [encode, Ports.idle, Ports.rdReading]

open Machine

/-- Settles O16: lane by lane, and by the number each side draws. -/
theorem bufferDrawnAsVector : Obligations.BufferDrawnAsVector :=
  ⟨Buffer.toBits_slice, Buffer.ofBits_toBits, Buffer.toBits_ofBits, Buffer.toBits_serialize⟩

/-- Settles O1: the word of a printed sample draws that sample again, so its decoder's answer is that of the sample. -/
theorem commandWordRoundTrip : Obligations.CommandWordRoundTrip := decodeWord_encodeWord

/-- Settles O2: the decoded command's printed sample is the canonical sample the word draws, and drawing it gives the word. -/
theorem canonicalWordRoundTrip : Obligations.CanonicalWordRoundTrip := by
  intro w i hw hi
  rw [decodeWord_eq, Option.some.injEq] at hi
  rw [encodeWord, ← hi, encode_decodeCommand hw, Ports.toWord_ofWord]

end Sys2Proof
end

section
/-! PACK and the two unpack functions (40_serializer.md R92; 43_describe.md R140, R141): the flag stands above the 15 low bits of
the temperature, and each part is read back. -/

namespace Sys2Proof

theorem PowerStatus.toBit_eq_ite (p : PowerStatus) : p.toBit = if p = .battery then 1 else 0 := by
  cases p <;> rfl

namespace Machine

theorem and_tempMask_toNat (v : BitVec 16) : (v &&& Config.tempMask).toNat = v.toNat % 32768 := by
  rw [BitVec.toNat_and]
  exact Nat.and_two_pow_sub_one_eq_mod v.toNat 15

/-- PACK reads 15 bits of the temperature (R92). -/
theorem pack_mod (c : Nat) (p : PowerStatus) : pack (c % 32768) p = pack c p := by
  have masked : BitVec.ofNat 16 (c % 32768) &&& Config.tempMask = BitVec.ofNat 16 c &&& Config.tempMask := by
    apply BitVec.eq_of_toNat_eq
    rw [and_tempMask_toNat, and_tempMask_toNat, BitVec.toNat_ofNat, BitVec.toNat_ofNat]
    omega
  simp only [pack, masked]

theorem pack_eq_append (c : Nat) (p : PowerStatus) : pack c p = p.toBit ++ BitVec.ofNat 15 c := by
  apply BitVec.eq_of_toNat_eq
  rw [← pack_mod, pack_toNat _ (Nat.mod_lt c (by decide)), toNat_append_eq, BitVec.toNat_ofNat]
  exact Nat.add_comm ..

theorem pack_eq_or_ite (c : Nat) (p : PowerStatus) :
    pack c p = (BitVec.ofNat 16 c &&& 0x7FFF) ||| if p = .battery then 0x8000 else 0x0000 := by
  cases p <;> rfl

theorem unpackTemp_pack {c : Nat} (hc : c < 32768) (p : PowerStatus) : (unpackTemp (pack c p)).toNat = c := by
  rw [unpackTemp_toNat, pack_toNat c hc]
  omega

@[simp] theorem unpackPower_pack (c : Nat) (p : PowerStatus) : unpackPower (pack c p) = p.toBit := by
  rw [pack_eq_append, unpackPower, extract_append_left _ _ _ _ _ _ (le_refl 15)]
  exact BitVec.extractLsb'_eq_self

/-- Bits 14:11 lie between a temperature below `2 ^ 11` and the flag. -/
theorem pack_bits_14_11 {c : Nat} (hc : c < 2048) (p : PowerStatus) : (pack c p).extractLsb' 11 4 = 0 := by
  apply BitVec.eq_of_toNat_eq
  rw [BitVec.extractLsb'_toNat, Nat.shiftRight_eq_div_pow, pack_toNat c (by omega)]
  simp
  omega

end Machine

open Machine

/-- Settles O20: PACK by its formula and by its parts; a clamped temperature is below `2 ^ 11`, so it fills at most 11 of its
15 bits. -/
theorem packPutsFlagInBitFifteen : Obligations.PackPutsFlagInBitFifteen := by
  refine ⟨fun c p => ⟨pack_eq_or_ite c p, pack_eq_append c p, fun _ hmax => ⟨?low, pack_bits_14_11 (by omega) p⟩⟩, by decide⟩
  case low => rw [← unpackTemp_toNat, unpackTemp_pack (by omega)]

/-- Settles O39: the unpacked parts are the quotient and the remainder by `2 ^ 15`, the mask's own remainder, and PACK's two
parts. -/
theorem unpackUndoesPack : Obligations.UnpackUndoesPack := by
  refine ⟨fun s => ⟨unpackPower_toNat s, ?mask, unpackTemp_toNat s⟩,
    fun c p hc => ⟨unpackTemp_pack (by omega) p, unpackPower_pack c p⟩, by decide⟩
  case mask => rw [unpackTemp_toNat]; exact (and_tempMask_toNat s).symm

end Sys2Proof
end

section
/-! What ENCODE's packet carries (40_serializer.md R97 to R99; 41_deserializer.md R117; 43_describe.md R147): its bytes sum to 0,
its temperature field is the clamped temperature under the power bit, and the commands that read the packet get these back. -/

namespace Sys2Proof

namespace Machine

theorem csumOk_encoded (t x : BitVec 32) (p : PowerStatus) (n : BitVec 32) :
    csumOk (serialize (encodedReading t x p n)) = true := by
  have hlast : (serialize (encodedReading t x p n))[7].toNat = _ :=
    (congrArg BitVec.toNat (serialize_checksum _)).trans (csumGen_toNat _)
  rw [csumOk_iff, buffer_sum, hlast, ← checksummedBytes_sum (encodedReading t x p n)]
  simp only [encodedReading]
  omega

@[simp] theorem validityBit_encoded (t x : BitVec 32) (p : PowerStatus) (n : BitVec 32) :
    validityBit (encodedReading t x p n) = 1 :=
  (validityBit_eq_one_iff _).mpr (csumOk_encoded t x p n)

theorem clamp_lt_two_pow (x : BitVec 32) : clamp x < 32768 := Nat.lt_of_le_of_lt (clamp_le x) (by decide)

theorem unpackTemp_encoded (t x : BitVec 32) (p : PowerStatus) (n : BitVec 32) :
    (unpackTemp (encodedReading t x p n).tempStatus).toNat = clamp x :=
  unpackTemp_pack (clamp_lt_two_pow x) p

@[simp] theorem unpackPower_encoded (t x : BitVec 32) (p : PowerStatus) (n : BitVec 32) :
    unpackPower (encodedReading t x p n).tempStatus = p.toBit :=
  unpackPower_pack (clamp x) p

/-- The temperature field in the packet's lanes 4 and 5, without the power bit. -/
theorem encoded_temperature_lanes (t x : BitVec 32) (p : PowerStatus) (n : BitVec 32) :
    (256 * (serialize (encodedReading t x p n))[4].toNat + (serialize (encodedReading t x p n))[5].toNat) % 32768 =
      clamp x := by
  rw [serialize_tempStatus_toNat, ← unpackTemp_toNat, unpackTemp_encoded]

/-- Operands enter the built Reading as the timestamp, the clamped temperature, the power status and the low byte of the id. -/
theorem encodedReading_inj {t x t' x' : BitVec 32} {p p' : PowerStatus} {n n' : BitVec 32} :
    encodedReading t x p n = encodedReading t' x' p' n' ↔ t = t' ∧ clamp x = clamp x' ∧ p = p' ∧ trunc8 n = trunc8 n' := by
  constructor
  · intro h
    have htemp := congrArg (fun r => (unpackTemp r.tempStatus).toNat) h
    have hpower := congrArg (fun r => PowerStatus.ofBit (unpackPower r.tempStatus)) h
    simp only [unpackTemp_encoded, unpackPower_encoded, PowerStatus.ofBit_toBit] at htemp hpower
    exact ⟨congrArg Reading.timestamp h, htemp, hpower, congrArg Reading.id h⟩
  · rintro ⟨rfl, hx, rfl, hn⟩
    rw [encodedReading, encodedReading, hx, hn]

theorem exec_encode_inj {t x t' x' : BitVec 32} {p p' : PowerStatus} {n n' : BitVec 32} (s : State) :
    exec (.encode t x p n) s = exec (.encode t' x' p' n') s ↔ encodedReading t x p n = encodedReading t' x' p' n' := by
  rw [exec_encode, exec_encode]
  constructor
  · intro h
    exact serialize_bijective.injective (congrArg State.outBuf (Host.Outcome.next.inj h))
  · intro h
    rw [h]

theorem exec_decode_serialize (r : Reading) (s : State) :
    exec (.decode (serialize r) 8) s = .next ((s.putDecoded r Config.errNone).respond Config.opDecode) := by
  rw [exec_decode_of_eight rfl, deserialize_serialize]

end Machine

open Machine

/-- Settles O22: the outcome determines the packet, SERIALIZE is injective, and so is each step of building the Reading but the
clamp and the truncation. -/
theorem encodeLosesOnlyClampAndTruncation : Obligations.EncodeLosesOnlyClampAndTruncation := by
  intro t x p n t' x' p' n' s
  rw [exec_encode_inj, encodedReading_inj, ← clamp_eq, ← clamp_eq, Nat.cast_inj, ← trunc8_toNat, ← trunc8_toNat,
    BitVec.toNat_inj]

/-- Settles O23: lanes 4 and 5 hold the clamped temperature, which is not 0 and below `2 ^ 11`. -/
theorem encodedTemperatureInRange : Obligations.EncodedTemperatureInRange := by
  intro t x p n s s' h
  rw [exec_encode] at h
  cases h
  have hmin := le_clamp x
  have hmax := clamp_le x
  have htemp := encoded_temperature_lanes t x p n
  simp only [State.respond_outBuf, State.putPacket_outBuf]
  refine ⟨?bits, by omega, by omega, ?nonzero⟩
  case bits =>
    apply BitVec.eq_of_toNat_eq
    rw [BitVec.extractLsb'_toNat, Nat.shiftRight_eq_div_pow]
    simp
    omega
  case nonzero =>
    intro hzero
    rw [hzero] at htemp
    simp at htemp
    omega

/-- Settles O24: the packet's Reading is the one ENCODE built, whose checksum makes the sum 0. -/
theorem encodedPacketValidates : Obligations.EncodedPacketValidates :=
  fun t x p n s => ⟨_, _, exec_encode t x p n s, exec_validate _ _, by simp, by simp⟩

/-- Settles O26: DECODE puts the fields of the packet's Reading, which is the one ENCODE built. -/
theorem encodeDecodeRoundTrip : Obligations.EncodeDecodeRoundTrip := by
  intro t x p n s
  refine ⟨_, _, exec_encode t x p n s, exec_decode_serialize (encodedReading t x p n) _, rfl, rfl, ?temperature, ?power, ?id,
    ?checksum⟩
  case temperature =>
    rw [← clamp_eq, Nat.cast_inj, ← unpackTemp_toNat]
    exact unpackTemp_encoded t x p n
  case power => exact (unpackPower_encoded t x p n).trans p.toBit_eq_ite
  case id => exact trunc8_toNat n
  case checksum => exact (serialize_checksum (encodedReading t x p n)).symm

/-- Settles O27: the four registers hold DESERIALIZE of the buffer, which SERIALIZE undoes. -/
theorem decodeLosesNothing : Obligations.DecodeLosesNothing :=
  fun b s => ⟨_, exec_decode_of_eight rfl b s, serialize_deserialize b⟩

/-- Settles O41: the packet's Reading is the one ENCODE built; DIVMOD10 splits its clamped temperature, whose bounds are those
of the whole degrees times 10. -/
theorem encodeThenDescribe : Obligations.EncodeThenDescribe := by
  intro t x p n s
  have hmin := le_clamp x
  have hmax := clamp_le x
  have hclamp := clamp_eq x
  have htenths := tenthsDigit_le (unpackTemp (encodedReading t x p n).tempStatus)
  have hsum := ten_mul_wholeDegrees_add_tenthsDigit (unpackTemp (encodedReading t x p n).tempStatus)
  rw [unpackTemp_encoded] at hsum
  refine ⟨_, _, exec_encode t x p n s, exec_describe _ _, ?_⟩
  simp only [State.respond_outBuf, State.putPacket_outBuf, deserialize_serialize, State.respond_outPower,
    State.respond_outWhole, State.respond_outTenths, State.respond_outValidity, State.putDisplay_outPower,
    State.putDisplay_outWhole, State.putDisplay_outTenths, State.putDisplay_outValidity]
  exact ⟨(unpackPower_encoded t x p n).trans p.toBit_eq_ite, by omega, htenths, by omega, by omega,
    validityBit_encoded t x p n⟩

end Sys2Proof
end

section
/-! The byte sum and the checksum functions (42_checksum_engine.md R125 to R132): a wrapping adder, the negation and the test
agree on the sum modulo 256, the sum moves with a replaced lane, and seven free bytes determine a valid packet. -/

namespace Sys2Proof

namespace Machine

/-- An 8-bit adder that wraps keeps the exact sum modulo 256. -/
theorem foldl_add_toNat (bytes : List Byte) (a : Byte) :
    (bytes.foldl (· + ·) a).toNat = (a.toNat + (bytes.map BitVec.toNat).sum) % 256 := by
  induction bytes generalizing a with
  | nil => simpa using (Nat.mod_eq_of_lt a.isLt).symm
  | cons x bytes ih =>
    rw [List.foldl_cons, ih, BitVec.toNat_add, List.map_cons, List.sum_cons]
    omega

theorem sum8_eq_foldl {n : Nat} (b : Vector Byte n) : sum8 b = b.toList.foldl (· + ·) 0 := by
  apply BitVec.eq_of_toNat_eq
  rw [sum8_toNat, foldl_add_toNat]
  simp

theorem sum8_perm {n : Nat} {b c : Vector Byte n} (h : c.toList.Perm b.toList) : sum8 c = sum8 b := by
  rw [sum8, sum8, (h.map BitVec.toNat).sum_eq]

theorem neg8_eq_neg (s : Byte) : neg8 s = -s := by
  apply BitVec.eq_of_toNat_eq
  rw [neg8_toNat, BitVec.toNat_neg]

/-- A byte makes the sum a multiple of 256 iff it is the negation. -/
theorem add_mod_eq_zero_iff (s k : Byte) : (s.toNat + k.toNat) % 256 = 0 ↔ k = neg8 s := by
  have hs := s.isLt
  have hk := k.isLt
  rw [← BitVec.toNat_inj, neg8_toNat]
  omega

theorem csumOk_push_iff (b : Vector Byte 7) (k : Byte) : csumOk (b.push k) = true ↔ k = csumGen b := by
  rw [csumOk_iff, Vector.toList_push, List.map_append, List.sum_append, csumGen, ← add_mod_eq_zero_iff, sum8_toNat]
  simp

theorem csumOk_perm {b c : Buffer} (h : c.toList.Perm b.toList) : csumOk c = csumOk b := by
  rw [csumOk, csumOk, sum8_perm h]

/-- Replacing a lane moves the byte sum by the difference of the two values. -/
theorem byteSum_set (b : Buffer) (k : Fin 8) (v : Byte) :
    ((b.set k v).toList.map BitVec.toNat).sum + b[k].toNat = (b.toList.map BitVec.toNat).sum + v.toNat := by
  have hlen : k.val < (b.toList.map BitVec.toNat).length := by simp
  have hold : (b.toList.map BitVec.toNat).set k b[k].toNat = b.toList.map BitVec.toNat := by
    simpa using List.set_getElem_self hlen
  have hsum (w : Byte) := List.sum_set (b.toList.map BitVec.toNat) k w.toNat
  simp only [if_pos hlen] at hsum
  rw [← hold, Vector.toList_set, List.map_set, hsum, hsum]
  omega

theorem csumOk_set_ne {b : Buffer} {k : Fin 8} {v : Byte} (hb : csumOk b = true) (hv : v ≠ b[k]) :
    csumOk (b.set k v) = false := by
  have hne : v.toNat ≠ b[k].toNat := fun h => hv (BitVec.eq_of_toNat_eq h)
  have hsum := byteSum_set b k v
  have hvlt := v.isLt
  have hklt := b[k].isLt
  rw [csumOk_iff] at hb
  rw [← Bool.not_eq_true, csumOk_iff]
  omega

theorem csumOk_set_set {b : Buffer} {i j : Fin 8} {u v : Byte} (hij : i ≠ j)
    (hcancel : (u.toNat + v.toNat) % 256 = (b[i].toNat + b[j].toNat) % 256) :
    csumOk ((b.set i u).set j v) = csumOk b := by
  have hi := byteSum_set b i u
  have hj := byteSum_set (b.set i u) j v
  have hlane : (b.set i u)[j] = b[j] := Vector.getElem_set_ne _ _ (Fin.val_ne_of_ne hij)
  rw [hlane] at hj
  rw [Bool.eq_iff_iff, csumOk_iff, csumOk_iff]
  omega

/-- The Reading of four zero fields, which a failed DECODE leaves, is valid. -/
theorem validityBit_zero : validityBit Reading.zero = 1 := by decide

/-- A vector of `n` bytes is a function from its `n` places. -/
def bytesEquiv (n : Nat) : Vector Byte n ≃ (Fin n → Byte) where
  toFun b k := b[k]
  invFun := Vector.ofFn
  left_inv b := by ext k hk; simp
  right_inv f := by ext k; simp

theorem card_bytes (n : Nat) : Nat.card (Vector Byte n) = 256 ^ n := by
  have hbyte : Nat.card Byte = 256 := by
    rw [Nat.card_congr BitVec.equivFin.toEquiv, Nat.card_fin]; rfl
  rw [Nat.card_congr (bytesEquiv n), Nat.card_fun, hbyte, Nat.card_fin]

/-- A valid packet is its first seven bytes: the eighth is the generated one. -/
def validPacketEquiv : (Subtype fun b : Buffer => csumOk b = true) ≃ Vector Byte 7 where
  toFun b := b.val.pop
  invFun c := ⟨c.push (csumGen c), (csumOk_push_iff c _).mpr rfl⟩
  left_inv := by
    rintro ⟨b, hb⟩
    obtain ⟨c, k, rfl⟩ := b.exists_push
    obtain rfl := (csumOk_push_iff c k).mp hb
    simp
  right_inv c := Vector.pop_push

end Machine

open Machine

/-- Settles O31: both sums agree as numbers modulo 256, a sum of numbers does not depend on their order, and the corner cases
hold by evaluation. -/
theorem byteSumModulo : Obligations.ByteSumModulo :=
  ⟨fun _ b => ⟨sum8_toNat b, sum8_eq_foldl b, fun _ => sum8_perm⟩, by decide⟩

/-- Settles O32: NEG8 is the negation of 8-bit vectors, and both bytes are below 256. -/
theorem negationMakesSumZero : Obligations.NegationMakesSumZero :=
  ⟨fun s => ⟨neg8_toNat s, (neg8_eq_neg s).trans (BitVec.neg_eq_not_add s), add_mod_eq_zero_iff s⟩, by decide⟩

/-- Settles O33: the eighth byte makes the sum of eight 0 iff it is the negated sum of seven. -/
theorem checksumTestMatchesGenerator : Obligations.ChecksumTestMatchesGenerator :=
  ⟨csumGen_toNat, csumOk_iff, csumOk_push_iff, by decide⟩

/-- Settles O34: the packets are eight free bytes, the valid ones seven. -/
theorem validPacketsCounted : Obligations.ValidPacketsCounted := by
  refine ⟨?all, ?valid⟩
  case all => rw [card_bytes]; norm_num
  case valid => rw [Nat.card_congr validPacketEquiv, card_bytes]; norm_num

/-- Settles O35: the changed packet's sum differs from a multiple of 256 by less than 256, and VALIDATE tests that packet. -/
theorem singleByteChangeDetected : Obligations.SingleByteChangeDetected := by
  intro b k v s hb hv
  have hzero : validityBit (deserialize (b.set k v)) = 0 := by
    rw [validityBit_eq_zero_iff, serialize_deserialize]
    exact csumOk_set_ne hb hv
  rw [exec_validate, hzero]
  rfl

/-- Settles O36: both changes keep the sum modulo 256. -/
theorem cancellingChangesUndetected : Obligations.CancellingChangesUndetected :=
  ⟨fun _ _ => csumOk_perm, fun _ _ _ _ _ => csumOk_set_set⟩

/-- Settles O30: the failed DECODE leaves the zero Reading, whose bytes sum to 0, and VALIDATE holds `out_err`. -/
theorem failedDecodeFieldsValidate : Obligations.FailedDecodeFieldsValidate := by
  intro b len s hlen
  refine ⟨_, _, exec_decode_of_ne (lenChk_eq_false_of_ne hlen) b s, by simp, exec_validate _ _, ?ok, rfl⟩
  case ok =>
    rw [State.respond_outOk, State.putOk_outOk]
    exact validityBit_zero

/-- Settles O42: both registers take the validity bit of the Reading. -/
theorem describeAgreesWithValidate : Obligations.DescribeAgreesWithValidate :=
  fun r s s' => ⟨_, _, exec_validate r s, exec_describe r s', rfl⟩

end Sys2Proof
end

section
/-! One step and runs of steps (10_state.md R36; 60_exceptions.md R170; log entries 1, 2 and 6): the step is an edge at the
sample presented, every step answers next, and instances step apart. -/

namespace Sys2Proof

namespace Machine

@[simp] theorem step_present (s : State) (p : Ports) : step (s.present p) = edge p s := by
  rw [step, State.sampled_present, State.dropInput_present]

@[simp] theorem runCommand_eq_exec (i : Instr) (s : State) : runCommand i s = exec i s := by
  rw [runCommand, step_present, edge_of_command (decode_encode i)]

theorem step_answers_next (s : State) : ∃ t, step s = .next t := edge_answers_next s.sampled s.dropInput

theorem Instances.stepAt_of_step {n : Nat} {v : Instances n} {k : Fin n} {t : State} (h : step v[k] = .next t) :
    Instances.stepAt v k = .next (v.set k t) := by
  rw [Instances.stepAt, h]

theorem step_of_nil {s : State} (h : s.inputs = []) : step s = .next s.idleStep := by
  rw [step, State.sampled_of_nil h, State.dropInput_of_nil h, edge_of_idle rfl]

end Machine

open Machine

/-- Settles O7: the presented sample is the one taken, and an edge at a sample that decodes to a command is its meaning. -/
theorem stepRunsSampledCommand : Obligations.StepRunsSampledCommand :=
  ⟨step_present, fun s _ hi => edge_of_command hi s.dropInput⟩

/-- Settles O9: an empty queue samples the idle ports. -/
theorem nothingPresentedIdles : Obligations.NothingPresentedIdles := fun _ => step_of_nil

/-- Settles O14, by induction on the number of steps: each step answers next, and the rest of the run goes on from there. -/
theorem everyRunGoesOn : Obligations.EveryRunGoesOn := by
  intro k
  induction k with
  | zero => exact fun s => ⟨s, rfl⟩
  | succ k ih =>
    intro s
    obtain ⟨t, ht⟩ := step_answers_next s
    obtain ⟨u, hu⟩ := ih t
    exact ⟨u, (core_run_succ ht k).trans hu⟩

/-- Settles O46: a step sets its own place of the vector, so the state at another place is as before, and settings
of two places commute. -/
theorem instancesDoNotInterfere : Obligations.InstancesDoNotInterfere := by
  intro n v j k
  obtain ⟨sj, hj⟩ := step_answers_next v[j]
  obtain ⟨sk, hk⟩ := step_answers_next v[k]
  refine ⟨_, _, Instances.stepAt_of_step hj, Instances.stepAt_of_step hk, by simpa using hk, fun hjk => ?apart⟩
  have hval : j.val ≠ k.val := Fin.val_ne_of_ne hjk
  have hj' : (v.set k sk)[j] = v[j] := Vector.getElem_set_ne _ _ hval.symm
  have hk' : (v.set j sj)[k] = v[k] := Vector.getElem_set_ne _ _ hval
  refine ⟨hj', _, Instances.stepAt_of_step (hk' ▸ hk), ?_⟩
  rw [Instances.stepAt_of_step (hj' ▸ hj), Vector.set_comm _ _ hval]

end Sys2Proof
end

section
/-! The invariant of the result registers (10_state.md R26; 41_deserializer.md R112; 40_serializer.md R97, R98): it holds at
reset, and each write of a command or of a reset step keeps each part of it. -/

namespace Sys2Proof

open Machine Safety

theorem registerInv_reset : RegisterInv State.reset := by decide

/-- A packet ENCODE builds sums to 0 and carries a temperature of 200 to 1200. -/
theorem packetSound_putPacket (s : State) (t x : BitVec 32) (p : PowerStatus) (n : BitVec 32) :
    PacketSound (s.putPacket (serialize (encodedReading t x p n))) := by
  have htemp := encoded_temperature_lanes t x p n
  have hmin := le_clamp x
  have hmax := clamp_le x
  exact ⟨(csumOk_iff _).mp (csumOk_encoded t x p n), .inr (by simp only [State.putPacket_outBuf]; omega)⟩

/-- The two results of DIVMOD10 are the digits of a 15-bit number. -/
theorem displayInRange_putDisplay (s : State) (power validity : BitVec 1) (m : BitVec 15) :
    DisplayInRange (s.putDisplay power (wholeDegrees m) (tenthsDigit m) validity) := by
  have hm := m.isLt
  have hsum := ten_mul_wholeDegrees_add_tenthsDigit m
  exact ⟨tenthsDigit_le m, by simp only [State.putDisplay_outWhole, State.putDisplay_outTenths]; omega⟩

section

variable {s : State} (hs : RegisterInv s)
include hs

theorem registerInv_respond (op : BitVec 2) : RegisterInv (s.respond op) := hs

theorem registerInv_putOk (ok : BitVec 1) : RegisterInv (s.putOk ok) := hs

theorem registerInv_putPacket {b : Buffer} (hb : PacketSound (s.putPacket b)) : RegisterInv (s.putPacket b) := by
  obtain ⟨herr, hzeroed, hdisplay, -⟩ := hs
  exact ⟨herr, hzeroed, hdisplay, hb⟩

theorem registerInv_putDecoded (r : Reading) : RegisterInv (s.putDecoded r Config.errNone) := by
  obtain ⟨-, -, hdisplay, hpacket⟩ := hs
  exact ⟨by simp, by simp, hdisplay, hpacket⟩

theorem registerInv_raiseMalformedLength : RegisterInv s.raiseMalformedLength := by
  obtain ⟨-, -, hdisplay, hpacket⟩ := hs
  exact ⟨by simp, by simp, hdisplay, hpacket⟩

theorem registerInv_putDisplay {power validity : BitVec 1} {whole : BitVec 12} {tenths : BitVec 4}
    (h : DisplayInRange (s.putDisplay power whole tenths validity)) :
    RegisterInv (s.putDisplay power whole tenths validity) := by
  obtain ⟨herr, hzeroed, -, hpacket⟩ := hs
  exact ⟨herr, hzeroed, h, hpacket⟩

end

theorem exec_keeps_registerInv {i : Instr} {s t : State} (hs : RegisterInv s) (h : exec i s = .next t) : RegisterInv t := by
  obtain ⟨ts, x, p, n, -, rfl⟩ | ⟨b, len, -, -, rfl⟩ | ⟨b, len, -, -, rfl⟩ | ⟨r, -, rfl⟩ | ⟨r, -, rfl⟩ := exec_cases h
  · exact registerInv_respond (registerInv_putPacket hs (packetSound_putPacket s ts x p n)) _
  · exact registerInv_respond (registerInv_putDecoded hs (deserialize b)) _
  · exact registerInv_respond (registerInv_raiseMalformedLength hs) _
  · exact registerInv_respond (registerInv_putOk hs (validityBit r)) _
  · exact registerInv_respond (registerInv_putDisplay hs (displayInRange_putDisplay s _ _ _)) _

/-- Settles O12, by evaluation of the one reset state. -/
theorem resetMeetsRegisterBounds : Obligations.ResetMeetsRegisterBounds := registerInv_reset

/-- Settles O13: a reset step gives the reset values, an idle step writes no register of the invariant, and a command keeps
it. -/
theorem stepKeepsRegisterBounds : Obligations.StepKeepsRegisterBounds := by
  intro s t hs h
  obtain ⟨-, rfl⟩ | ⟨-, rfl⟩ | ⟨i, -, hexec⟩ := step_cases h
  · exact registerInv_reset
  · exact hs
  · exact exec_keeps_registerInv (s := s.dropInput) hs hexec

end Sys2Proof
end

section
/-! Commands one after another (20_memory.md R50, R53): a command is a write of operand values to the registers of its opcode,
followed by the common response, so writes of one opcode overwrite each other and writes of different opcodes commute. -/

namespace Sys2Proof

open Machine

/-- A write to the registers of one command (R26), the values given. -/
inductive RegisterWrite where
  | packet (b : Buffer)
  | decoded (r : Reading) (err : BitVec 2)
  | ok (ok : BitVec 1)
  | display (power : BitVec 1) (whole : BitVec 12) (tenths : BitVec 4) (validity : BitVec 1)

namespace RegisterWrite

def opcode : RegisterWrite → BitVec 2
  | packet _ => Config.opEncode
  | decoded _ _ => Config.opDecode
  | ok _ => Config.opValidate
  | display _ _ _ _ => Config.opDescribe

/-- The write, and the response every command makes. -/
def apply : RegisterWrite → State → State
  | packet b, s => (s.putPacket b).respond Config.opEncode
  | decoded r err, s => (s.putDecoded r err).respond Config.opDecode
  | ok k, s => (s.putOk k).respond Config.opValidate
  | display power whole tenths validity, s => (s.putDisplay power whole tenths validity).respond Config.opDescribe

theorem apply_rspOp (w : RegisterWrite) (s : State) : (w.apply s).rspOp = w.opcode := by
  cases w <;> rfl

/-- Two writes of one opcode write the same registers. -/
theorem apply_apply_of_opcode_eq {v w : RegisterWrite} (h : v.opcode = w.opcode) (s : State) :
    w.apply (v.apply s) = w.apply s := by
  cases v with
  | packet =>
    cases w with
    | packet => rfl
    | decoded | ok | display => simp [opcode] at h
  | decoded =>
    cases w with
    | decoded => rfl
    | packet | ok | display => simp [opcode] at h
  | ok =>
    cases w with
    | ok => rfl
    | packet | decoded | display => simp [opcode] at h
  | display =>
    cases w with
    | display => rfl
    | packet | decoded | ok => simp [opcode] at h

/-- Two writes of different opcodes share no register but `rsp_valid` and `rsp_op`. -/
theorem apply_comm_of_opcode_ne {v w : RegisterWrite} (h : v.opcode ≠ w.opcode) (s : State) :
    w.apply (v.apply s) = { v.apply (w.apply s) with rspOp := w.opcode } := by
  cases v with
  | packet =>
    cases w with
    | packet => exact absurd rfl h
    | decoded | ok | display => rfl
  | decoded =>
    cases w with
    | decoded => exact absurd rfl h
    | packet | ok | display => rfl
  | ok =>
    cases w with
    | ok => exact absurd rfl h
    | packet | decoded | display => rfl
  | display =>
    cases w with
    | display => exact absurd rfl h
    | packet | decoded | ok => rfl

end RegisterWrite

/-- Every command is one such write, whatever the state. -/
theorem exec_eq_apply (i : Instr) : ∃ w : RegisterWrite, w.opcode = i.opcode ∧ ∀ s, exec i s = .next (w.apply s) := by
  cases i with
  | encode t x p n => exact ⟨.packet (serialize (encodedReading t x p n)), rfl, exec_encode t x p n⟩
  | decode b len =>
    cases hlen : lenChk len with
    | true => exact ⟨.decoded (deserialize b) Config.errNone, rfl, exec_decode_of_eight hlen b⟩
    | false => exact ⟨.decoded Reading.zero Config.errMalformedLength, rfl, exec_decode_of_ne hlen b⟩
  | validate r => exact ⟨.ok (validityBit r), rfl, exec_validate r⟩
  | describe r =>
    exact ⟨.display (unpackPower r.tempStatus) (wholeDegrees (unpackTemp r.tempStatus))
      (tenthsDigit (unpackTemp r.tempStatus)) (validityBit r), rfl, exec_describe r⟩

/-- Settles O44: of two writes of one opcode the later wins, and here both are the same. -/
theorem commandsAreIdempotent : Obligations.CommandsAreIdempotent := by
  intro i s t h
  obtain ⟨w, -, hexec⟩ := exec_eq_apply i
  rw [hexec] at h
  cases h
  rw [hexec, RegisterWrite.apply_apply_of_opcode_eq rfl]

/-- Settles O45: the two commands are two writes, of one opcode or of different ones. -/
theorem laterCommandWinsOthersCommute : Obligations.LaterCommandWinsOthersCommute := by
  intro i j s
  obtain ⟨v, hv, hi⟩ := exec_eq_apply i
  obtain ⟨w, hw, hj⟩ := exec_eq_apply j
  rw [← hv, ← hw]
  exact ⟨_, _, _, _, hi s, hj s, hj _, hi _, fun hop => RegisterWrite.apply_apply_of_opcode_eq hop s,
    fun hop => ⟨RegisterWrite.apply_comm_of_opcode_ne hop s, v.apply_rspOp _⟩⟩

end Sys2Proof
end

section
/-! The requester's sequences (30_encoding.md R74): EMIT is one command and a counter; RECEIVE is DECODE and, of a packet of the
right length, the commands that read the decoded fields. -/

namespace Sys2Proof

namespace Machine

theorem nextId_toNat (n : BitVec 32) : (nextId n).toNat = (n.toNat + 1) % 256 := by
  rw [nextId, BitVec.toNat_ofNat]
  omega

@[simp] theorem andThen_next (s : State) (f : State → Host.Outcome State Fault Refusal) : andThen (.next s) f = f s := rfl

@[simp] theorem State.respond_decoded (s : State) (op : BitVec 2) : (s.respond op).decoded = s.decoded := rfl

@[simp] theorem State.putDecoded_decoded (s : State) (r : Reading) (err : BitVec 2) :
    (s.putDecoded r err).decoded = r := rfl

@[simp] theorem State.putOk_decoded (s : State) (ok : BitVec 1) : (s.putOk ok).decoded = s.decoded := rfl

/-- With the right length RECEIVE goes on to VALIDATE and DESCRIBE of the packet's Reading. -/
theorem receive_of_eight {b : Buffer} {s d d' : State} (hd : exec (.decode b 8) s = .next d)
    (hd' : exec (.validate (deserialize b)) d = .next d') : receive b 8 s = exec (.describe (deserialize b)) d' := by
  rw [exec_decode_of_eight rfl] at hd
  cases hd
  rw [exec_validate] at hd'
  cases hd'
  simp [receive, exec_decode_of_eight (len := 8#16) rfl, exec_validate]

theorem receiveWithoutValidate_of_eight {b : Buffer} {s d : State} (hd : exec (.decode b 8) s = .next d) :
    receiveWithoutValidate b 8 s = exec (.describe (deserialize b)) d := by
  rw [exec_decode_of_eight rfl] at hd
  cases hd
  simp [receiveWithoutValidate, exec_decode_of_eight (len := 8#16) rfl]

/-- With another length RECEIVE ends at the error, with or without the VALIDATE. -/
theorem receive_of_ne {len : BitVec 16} (hlen : len ≠ 8) (b : Buffer) (s : State) :
    receive b len s = exec (.decode b len) s ∧ receiveWithoutValidate b len s = exec (.decode b len) s := by
  simp [receive, receiveWithoutValidate, exec_decode_of_ne (lenChk_eq_false_of_ne hlen)]

end Machine

open Machine

/-- Settles O47: with length 8 both sequences end with DESCRIBE of the packet's Reading, and its four registers do not depend
on the state it runs in. -/
theorem receiveDecodesValidatesDescribes : Obligations.ReceiveDecodesValidatesDescribes := by
  intro b len s
  by_cases hlen : len = 8
  case pos =>
    subst hlen
    have hdecode := exec_decode_of_eight (len := 8) rfl b s
    have hreceive := receive_of_eight hdecode (exec_validate _ _)
    have hwithout := receiveWithoutValidate_of_eight hdecode
    rw [exec_describe] at hreceive hwithout
    exact ⟨_, _, _, hreceive, hwithout, hdecode,
      fun _ => ⟨_, _, exec_validate _ _, exec_describe _ _, by simp⟩, fun h => absurd rfl h⟩
  case neg =>
    obtain ⟨hreceive, hwithout⟩ := receive_of_ne hlen b s
    have hdecode := exec_decode_of_ne (lenChk_eq_false_of_ne hlen) b s
    exact ⟨_, _, _, hreceive.trans hdecode, hwithout.trans hdecode, hdecode, fun h => absurd h hlen, fun _ => ⟨rfl, rfl⟩⟩

/-- Settles O48: presenting a printed command runs its meaning, and the counter fits its 32 bits. -/
theorem emitEncodesAndCounts : Obligations.EmitEncodesAndCounts :=
  fun t x p n s => ⟨runCommand_eq_exec (.encode t x p n) s, nextId_toNat n⟩

end Sys2Proof
end

section
/-! MemRead and MemWrite of any size within the buffer (20_memory.md R44, R45; log entry 12): bytes by offset, and a read by its
bytes. -/

namespace Sys2Proof

/-- A slice within a slice is a slice. -/
theorem slice_slice {w : Nat} (v : BitVec w) (s m s' n : Nat) (h : s' + n ≤ m) :
    (v.extractLsb' s m).extractLsb' s' n = v.extractLsb' (s + s') n := by
  ext i hi
  simp only [BitVec.getElem_extractLsb', BitVec.getLsbD_extractLsb']
  rw [decide_eq_true (by omega), Bool.true_and, Nat.add_assoc]

namespace Machine

theorem memWrite_getElem_of_mem {b : Buffer} {off n : Nat} (h : off + n ≤ 8) (v : BitVec (8 * n)) {i : Nat} (hi : i < n) :
    (memWrite b off n h v)[off + i]'(by omega) = v.extractLsb' (8 * (n - 1 - i)) 8 := by
  rw [memWrite_getElem, if_pos (by omega), Nat.add_sub_cancel_left]

theorem memWrite_getElem_of_not_mem {b : Buffer} {off n : Nat} (h : off + n ≤ 8) (v : BitVec (8 * n)) {k : Nat}
    (hk : k < 8) (hout : k < off ∨ off + n ≤ k) : (memWrite b off n h v)[k] = b[k] := by
  rw [memWrite_getElem, if_neg (by omega)]

/-- Byte `n - 1 - i` of a read of `n` bytes is the lane at offset `off + i`, by induction on the size: the last lane is the
lowest byte, and the bytes above it are those of the read one shorter. -/
theorem memRead_slice (b : Buffer) (off n : Nat) (h : off + n ≤ 8) {i : Nat} (hi : i < n) :
    (memRead b off n h).extractLsb' (8 * (n - 1 - i)) 8 = b[off + i]'(by omega) := by
  induction n with
  | zero => omega
  | succ n ih =>
    rw [memRead_succ]
    obtain hlast | hlt : i = n ∨ i < n := by omega
    · subst hlast
      rw [Nat.add_sub_cancel, Nat.sub_self]
      exact extract_append_right ..
    · rw [extract_append_left _ _ _ _ _ _ (by omega), ← ih (by omega) hlt]
      congr 1
      omega

/-- A read of lanes that hold the bytes of a value gives the value, by induction on its size. -/
theorem memRead_eq_of_lanes (b : Buffer) (off n : Nat) (h : off + n ≤ 8) (v : BitVec (8 * n))
    (hlanes : ∀ (i : Nat) (hi : i < n), b[off + i]'(by omega) = v.extractLsb' (8 * (n - 1 - i)) 8) :
    memRead b off n h = v := by
  induction n with
  | zero => exact (BitVec.of_length_zero (x := v)).symm
  | succ n ih =>
    have hlow : b[off + n]'(by omega) = v.extractLsb' 0 8 := by
      rw [hlanes n (by omega), Nat.add_sub_cancel, Nat.sub_self]
    have hhigh : memRead b off n (by omega) = v.extractLsb' 8 (8 * n) := by
      apply ih
      intro i hi
      rw [hlanes i (by omega), slice_slice _ _ _ _ _ (by omega)]
      congr 1
      omega
    rw [memRead_succ, hlow, hhigh, join_slices _ _ _ _ _ (Nat.zero_add 8).symm]
    exact BitVec.extractLsb'_eq_self

end Machine

open Machine

/-- Settles O15: the lanes a write sets and leaves, the bytes of a read, and both together: the written lanes hold the bytes
of the value. -/
theorem bufferReadAfterWrite : Obligations.BufferReadAfterWrite := by
  intro b off n h v
  exact ⟨fun _ hi => memWrite_getElem_of_mem h v hi, fun _ hk hout => memWrite_getElem_of_not_mem h v hk hout,
    fun _ hi => memRead_slice b off n h hi, memRead_eq_of_lanes _ off n h v fun _ hi => memWrite_getElem_of_mem h v hi⟩

/-- Settles O3, sample by sample: all ports are given, so the decoder evaluates. -/
theorem programSamplesDecode : Obligations.ProgramSamplesDecode :=
  ⟨by decide, by decide, by decide, by decide, by decide, by decide⟩

end Sys2Proof
end

section
/-! Lines of text (30_encoding.md R73; log entry 8): the reader undoes the printer, digit by digit, number by number, and
token by token. -/

namespace Sys2Proof

theorem Buffer.lanes_eq (b : Buffer) : #v[b[0], b[1], b[2], b[3], b[4], b[5], b[6], b[7]] = b := by
  apply Vector.ext
  intro k hk
  interval_cases k <;> rfl

namespace Text

/-! ### Digits and numbers -/

/-- The characters the printer writes numbers with. -/
def IsDigits (cs : List Char) : Prop := ∀ c ∈ cs, ∃ d < 16, c = digitChar d

theorem digitValue_digitChar {d : Nat} (hd : d < 16) : digitValue (digitChar d) = some d := by
  revert d; decide

/-- The characters the reader treats apart: the separators, the sign, and the `x` of `0x`. -/
def marks : List Char := [' ', ',', '-', 'x']

theorem digitChar_not_mem_marks {d : Nat} (hd : d < 16) : digitChar d ∉ marks := by
  revert d; decide

theorem IsDigits.not_mem {cs : List Char} (h : IsDigits cs) {c : Char} (hc : c ∈ marks) : c ∉ cs := by
  intro hmem
  obtain ⟨d, hd, rfl⟩ := h c hmem
  exact digitChar_not_mem_marks hd hc

theorem IsDigits.append_digit {cs : List Char} (h : IsDigits cs) {d : Nat} (hd : d < 16) : IsDigits (cs ++ [digitChar d]) := by
  intro c hc
  obtain hc | hc := List.mem_append.mp hc
  · exact h c hc
  · exact ⟨d, hd, List.mem_singleton.mp hc⟩

theorem isDigits_digit {d : Nat} (hd : d < 16) : IsDigits [digitChar d] := by
  simpa [IsDigits] using ⟨d, hd, rfl⟩

theorem isDigits_hexChars (k n : Nat) : IsDigits (hexChars k n) := by
  induction k generalizing n with
  | zero => simp [IsDigits, hexChars]
  | succ k ih => exact (ih (n / 16)).append_digit (by omega)

theorem isDigits_decChars (k n : Nat) : IsDigits (decChars k n) := by
  induction k generalizing n with
  | zero => exact isDigits_digit (by omega)
  | succ k ih =>
    rw [decChars]
    split
    · exact isDigits_digit (by omega)
    · exact (ih (n / 10)).append_digit (by omega)

theorem hexChars_ne_nil (k n : Nat) : hexChars (k + 1) n ≠ [] := by simp [hexChars]

theorem decChars_ne_nil (k n : Nat) : decChars k n ≠ [] := by
  cases k with
  | zero => simp [decChars]
  | succ k => rw [decChars]; split <;> simp

/-- Reading one digit more. -/
theorem readDigits_append_digit {base d : Nat} (hbase : base ≤ 16) (hd : d < base) {cs : List Char} {acc n : Nat}
    (h : readDigits base cs acc = some n) : readDigits base (cs ++ [digitChar d]) acc = some (n * base + d) := by
  induction cs generalizing acc with
  | nil =>
    obtain rfl : acc = n := by simpa [readDigits] using h
    simp [readDigits, digitValue_digitChar (Nat.lt_of_lt_of_le hd hbase), hd]
  | cons c cs ih =>
    rw [readDigits] at h
    rw [List.cons_append, readDigits]
    cases hc : digitValue c with
    | none => simp [hc] at h
    | some e =>
      simp only [hc] at h ⊢
      split_ifs at h ⊢
      exact ih h

theorem readDigits_digit {base d : Nat} (hbase : base ≤ 16) (hd : d < base) : readDigits base [digitChar d] 0 = some d := by
  simpa using readDigits_append_digit hbase hd (cs := []) (acc := 0) rfl

theorem readDigits_hexChars {k n : Nat} (hn : n < 16 ^ k) : readDigits 16 (hexChars k n) 0 = some n := by
  induction k generalizing n with
  | zero =>
    obtain rfl : n = 0 := by simpa using hn
    rfl
  | succ k ih =>
    have hread := readDigits_append_digit (le_refl 16) (Nat.mod_lt n (by decide)) (ih (n := n / 16) (by omega))
    rwa [Nat.div_add_mod'] at hread

theorem readDigits_decChars {k n : Nat} (hn : n < 10 ^ (k + 1)) : readDigits 10 (decChars k n) 0 = some n := by
  induction k generalizing n with
  | zero =>
    rw [decChars, Nat.mod_eq_of_lt (by omega)]
    exact readDigits_digit (by decide) (by omega)
  | succ k ih =>
    rw [decChars]
    split
    next hlt => exact readDigits_digit (by decide) hlt
    next =>
      have hread := readDigits_append_digit (by decide) (Nat.mod_lt n (by decide : 0 < 10)) (ih (n := n / 10) (by omega))
      rwa [Nat.div_add_mod'] at hread

theorem readDecimal_decChars {n : Nat} (hn : n < 10 ^ 10) : readDecimal (decChars 9 n) = some n := by
  obtain ⟨c, cs, hcs⟩ := List.exists_cons_of_ne_nil (decChars_ne_nil 9 n)
  rw [← readDigits_decChars hn, hcs, readDecimal]

theorem fits_some {w n : Nat} (hn : n < 2 ^ w) : fits w (some n) = some (BitVec.ofNat w n) := if_pos hn

theorem fits_toNat {w : Nat} (v : BitVec w) : fits w (some v.toNat) = some v := by
  rw [fits_some v.isLt, BitVec.ofNat_toNat, BitVec.setWidth_eq]

/-! ### Operands -/

theorem readByte_hexChars (b : Byte) : readByte (hexChars 2 b.toNat) = some b := by
  have hread := readDigits_hexChars (k := 2) b.isLt
  rw [← fits_toNat b, ← hread]
  rfl

theorem readUnsigned_hexWord {w k : Nat} (v : BitVec w) (hk : 2 ^ w = 16 ^ (k + 1)) :
    readUnsigned w (hexWord (k + 1) v.toNat) = some v := by
  obtain ⟨c, cs, hcs⟩ := List.exists_cons_of_ne_nil (hexChars_ne_nil k v.toNat)
  have hread := readDigits_hexChars (hk ▸ v.isLt)
  rw [hcs] at hread
  rw [hexWord, hcs, readUnsigned, hread, fits_toNat]

theorem readSigned_hexWord (v : BitVec 32) : readSigned (hexWord 8 v.toNat) = some v := by
  obtain ⟨c, cs, hcs⟩ := List.exists_cons_of_ne_nil (hexChars_ne_nil 7 v.toNat)
  have hread := readDigits_hexChars (k := 8) v.isLt
  rw [hcs] at hread
  rw [hexWord, hcs, readSigned, hread, fits_toNat]

/-- A text of digits has no `0x`, so it is read as decimal. -/
theorem readUnsigned_of_isDigits (w : Nat) {cs : List Char} (h : IsDigits cs) :
    readUnsigned w cs = fits w (readDecimal cs) := by
  rw [readUnsigned]
  intro c rest hcs
  exact h.not_mem (c := 'x') (by decide) (by simp [hcs])

theorem readUnsigned_decChars (v : BitVec 32) : readUnsigned 32 (decChars 9 v.toNat) = some v := by
  rw [readUnsigned_of_isDigits 32 (isDigits_decChars 9 v.toNat), readDecimal_decChars (by have := v.isLt; omega),
    fits_toNat]

/-- A text of digits has no sign and no `0x`. -/
theorem readSigned_of_isDigits {cs : List Char} (h : IsDigits cs) {n : Nat} (hread : readDecimal cs = some n)
    (hn : n < 2 ^ 31) : readSigned cs = some (BitVec.ofNat 32 n) := by
  rw [readSigned]
  · simp only [hread]
    exact if_pos hn
  · intro rest hcs
    exact h.not_mem (c := '-') (by decide) (by simp [hcs])
  · intro c rest hcs
    exact h.not_mem (c := 'x') (by decide) (by simp [hcs])

theorem readSigned_minus {cs : List Char} {n : Nat} (hread : readDecimal cs = some n) (hn : n ≤ 2 ^ 31) :
    readSigned ('-' :: cs) = some (BitVec.ofInt 32 (-(n : Int))) := by
  simp only [readSigned, hread]
  exact if_pos hn

theorem readSigned_signedChars (v : BitVec 32) : readSigned (signedChars v) = some v := by
  have hv := v.isLt
  have htoInt := BitVec.toInt_eq_toNat_cond v
  rw [signedChars]
  split_ifs with hneg
  case pos =>
    have hread := readDecimal_decChars (n := v.toInt.natAbs) (by omega)
    have habs : -(v.toInt.natAbs : Int) = v.toInt := by omega
    rw [readSigned_minus hread (by omega), habs, BitVec.ofInt_toInt]
  case neg =>
    have hread := readDecimal_decChars (n := v.toNat) (by omega)
    rw [readSigned_of_isDigits (isDigits_decChars 9 _) hread (by omega), BitVec.ofNat_toNat, BitVec.setWidth_eq]

theorem readPower_powerChars (p : PowerStatus) : readPower (powerChars p) = some p := by
  cases p <;> decide

theorem readEncode_printed (t x : BitVec 32) (p : PowerStatus) (n : BitVec 32) :
    readEncode [signedChars t, [','], signedChars x, [','], powerChars p, [','], decChars 9 n.toNat] =
      some (.encode t x p n) := by
  simp [readEncode, readSigned_signedChars, readPower_powerChars, readUnsigned_decChars]

theorem readReading_printed (r : Reading) :
    readReading [hexWord 8 r.timestamp.toNat, [','], hexWord 4 r.tempStatus.toNat, [','], hexWord 2 r.id.toNat, [','],
      hexWord 2 r.checksum.toNat] = some r := by
  simp [readReading, readSigned_hexWord, readUnsigned_hexWord]

theorem readDecode_printed (b : Buffer) (len : BitVec 16) :
    readDecode [hexChars 2 b[0].toNat, hexChars 2 b[1].toNat, hexChars 2 b[2].toNat, hexChars 2 b[3].toNat,
      hexChars 2 b[4].toNat, hexChars 2 b[5].toNat, hexChars 2 b[6].toNat, hexChars 2 b[7].toNat, [','],
      decChars 9 len.toNat] = some (.decode b len) := by
  have hlen : fits 16 (readDecimal (decChars 9 len.toNat)) = some len := by
    rw [readDecimal_decChars (by have := len.isLt; omega), fits_toNat]
  simp only [readDecode, readBytes, readByte_hexChars, hlen, Buffer.lanes_eq]

/-! ### Tokens -/

/-- A token of more than a comma: not empty, no separator in it. -/
def IsWord (cs : List Char) : Prop := cs ≠ [] ∧ ∀ c ∈ cs, c ≠ ' ' ∧ c ≠ ','

theorem IsDigits.not_separator {cs : List Char} (h : IsDigits cs) : ∀ c ∈ cs, c ≠ ' ' ∧ c ≠ ',' := by
  intro c hc
  constructor
  · rintro rfl
    exact h.not_mem (by decide) hc
  · rintro rfl
    exact h.not_mem (by decide) hc

theorem isWord_cons {c : Char} {cs : List Char} (hc : c ≠ ' ' ∧ c ≠ ',') (h : ∀ c ∈ cs, c ≠ ' ' ∧ c ≠ ',') :
    IsWord (c :: cs) :=
  ⟨List.cons_ne_nil c cs, List.forall_mem_cons.mpr ⟨hc, h⟩⟩

theorem isWord_hexChars (k n : Nat) : IsWord (hexChars (k + 1) n) :=
  ⟨hexChars_ne_nil k n, (isDigits_hexChars (k + 1) n).not_separator⟩

theorem isWord_decChars (k n : Nat) : IsWord (decChars k n) :=
  ⟨decChars_ne_nil k n, (isDigits_decChars k n).not_separator⟩

theorem isWord_hexWord (k n : Nat) : IsWord (hexWord k n) :=
  isWord_cons (by decide) (List.forall_mem_cons.mpr ⟨by decide, (isDigits_hexChars k n).not_separator⟩)

theorem isWord_signedChars (v : BitVec 32) : IsWord (signedChars v) := by
  rw [signedChars]
  split
  · exact isWord_cons (by decide) (isDigits_decChars 9 _).not_separator
  · exact isWord_decChars 9 _

theorem isWord_powerChars (p : PowerStatus) : IsWord (powerChars p) := by
  cases p with
  | network => exact (by simp [IsWord] : IsWord "NETWORK".toList)
  | battery => exact (by simp [IsWord] : IsWord "BATTERY".toList)

theorem flush_of_ne_nil {token : List Char} (h : token ≠ []) (rest : List (List Char)) :
    flush token rest = token :: rest := by
  rw [flush, if_neg (by simpa using h)]

theorem tokens_append {cs : List Char} (h : ∀ c ∈ cs, c ≠ ' ' ∧ c ≠ ',') (rest token : List Char) :
    tokens (cs ++ rest) token = tokens rest (token ++ cs) := by
  induction cs generalizing token with
  | nil => simp
  | cons c cs ih =>
    obtain ⟨hspace, hcomma⟩ := h c List.mem_cons_self
    rw [List.cons_append, tokens, if_neg hspace, if_neg hcomma, ih fun e he => h e (List.mem_cons_of_mem c he)]
    simp

section

variable {cs : List Char} (h : IsWord cs)
include h

theorem tokens_word : tokens cs [] = [cs] := by
  have htokens := tokens_append h.2 [] []
  rwa [List.append_nil, List.nil_append, tokens, flush_of_ne_nil h.1] at htokens

theorem tokens_word_space (rest : List Char) : tokens (cs ++ ([' '] ++ rest)) [] = cs :: tokens rest [] := by
  rw [tokens_append h.2, List.nil_append, List.singleton_append, tokens, if_pos rfl, flush_of_ne_nil h.1]

/-- A line's head is its mnemonic and a space. -/
theorem tokens_head {head : List Char} (hhead : head = cs ++ [' ']) (rest : List Char) :
    tokens (head ++ rest) [] = cs :: tokens rest [] := by
  rw [hhead, List.append_assoc, tokens_word_space h]

theorem tokens_word_comma (rest : List Char) : tokens (cs ++ (comma ++ rest)) [] = cs :: [','] :: tokens rest [] := by
  have hcomma : tokens (comma ++ rest) cs = flush cs ([','] :: tokens rest []) := rfl
  rw [tokens_append h.2, List.nil_append, hcomma, flush_of_ne_nil h.1]

end

theorem tokens_readingChars (r : Reading) :
    tokens (readingChars r) [] =
      [hexWord 8 r.timestamp.toNat, [','], hexWord 4 r.tempStatus.toNat, [','], hexWord 2 r.id.toNat, [','],
        hexWord 2 r.checksum.toNat] := by
  simp only [readingChars, List.append_assoc]
  simp only [tokens_word_comma (isWord_hexWord _ _), tokens_word (isWord_hexWord _ _)]

/-! ### Lines -/

theorem read_encode {line : List Char} {args : List (List Char)} (h : tokens line [] = "ENCODE".toList :: args) :
    read line = (readEncode args).map .command := by
  rw [read, h]
  rfl

theorem read_decode {line : List Char} {args : List (List Char)} (h : tokens line [] = "DECODE".toList :: args) :
    read line = (readDecode args).map .command := by
  rw [read, h]
  rfl

theorem read_validate {line : List Char} {args : List (List Char)} (h : tokens line [] = "VALIDATE".toList :: args) :
    read line = (readReading args).map fun r => .command (.validate r) := by
  rw [read, h]
  rfl

theorem read_describe {line : List Char} {args : List (List Char)} (h : tokens line [] = "DESCRIBE".toList :: args) :
    read line = (readReading args).map fun r => .command (.describe r) := by
  rw [read, h]
  rfl

theorem printCommand_encode (t x : BitVec 32) (p : PowerStatus) (n : BitVec 32) :
    printCommand (.encode t x p n) =
      "ENCODE ".toList ++ signedChars t ++ comma ++ signedChars x ++ comma ++ powerChars p ++ comma ++ decChars 9 n.toNat :=
  rfl

theorem printCommand_decode (b : Buffer) (len : BitVec 16) :
    printCommand (.decode b len) =
      "DECODE ".toList ++ hexChars 2 b[0].toNat ++ [' '] ++ hexChars 2 b[1].toNat ++ [' '] ++ hexChars 2 b[2].toNat
        ++ [' '] ++ hexChars 2 b[3].toNat ++ [' '] ++ hexChars 2 b[4].toNat ++ [' '] ++ hexChars 2 b[5].toNat ++ [' ']
        ++ hexChars 2 b[6].toNat ++ [' '] ++ hexChars 2 b[7].toNat ++ comma ++ decChars 9 len.toNat :=
  rfl

theorem read_print_encode (t x : BitVec 32) (p : PowerStatus) (n : BitVec 32) :
    read (printCommand (.encode t x p n)) = some (.command (.encode t x p n)) := by
  have htokens : tokens (printCommand (.encode t x p n)) [] =
      "ENCODE".toList ::
        [signedChars t, [','], signedChars x, [','], powerChars p, [','], decChars 9 n.toNat] := by
    simp only [printCommand_encode, List.append_assoc]
    rw [tokens_head (cs := "ENCODE".toList) (by simp [IsWord]) (by simp), tokens_word_comma (isWord_signedChars t),
      tokens_word_comma (isWord_signedChars x), tokens_word_comma (isWord_powerChars p), tokens_word (isWord_decChars 9 _)]
  rw [read_encode htokens, readEncode_printed, Option.map_some]

theorem read_print_decode (b : Buffer) (len : BitVec 16) :
    read (printCommand (.decode b len)) = some (.command (.decode b len)) := by
  have htokens : tokens (printCommand (.decode b len)) [] =
      "DECODE".toList ::
        [hexChars 2 b[0].toNat, hexChars 2 b[1].toNat, hexChars 2 b[2].toNat, hexChars 2 b[3].toNat,
          hexChars 2 b[4].toNat, hexChars 2 b[5].toNat, hexChars 2 b[6].toNat, hexChars 2 b[7].toNat, [','],
          decChars 9 len.toNat] := by
    simp only [printCommand_decode, List.append_assoc]
    rw [tokens_head (cs := "DECODE".toList) (by simp [IsWord]) (by simp)]
    simp only [tokens_word_space (isWord_hexChars 1 _), tokens_word_comma (isWord_hexChars 1 _),
      tokens_word (isWord_decChars 9 _)]
  rw [read_decode htokens, readDecode_printed, Option.map_some]

theorem read_print_validate (r : Reading) : read (printCommand (.validate r)) = some (.command (.validate r)) := by
  have htokens : tokens (printCommand (.validate r)) [] = "VALIDATE".toList :: tokens (readingChars r) [] := by
    exact tokens_head (by simp [IsWord]) (by simp) (readingChars r)
  rw [read_validate htokens, tokens_readingChars, readReading_printed, Option.map_some]

theorem read_print_describe (r : Reading) : read (printCommand (.describe r)) = some (.command (.describe r)) := by
  have htokens : tokens (printCommand (.describe r)) [] = "DESCRIBE".toList :: tokens (readingChars r) [] := by
    exact tokens_head (by simp [IsWord]) (by simp) (readingChars r)
  rw [read_describe htokens, tokens_readingChars, readReading_printed, Option.map_some]

end Text

/-- Settles O6: RESET and IDLE are read by evaluation; of a printed command the tokens come back, and each is read as the
operand it was printed from. -/
theorem textNotationRoundTrip : Obligations.TextNotationRoundTrip := by
  intro e
  cases e with
  | reset => decide
  | idle => decide
  | command i =>
    cases i with
    | encode t x p n => exact Text.read_print_encode t x p n
    | decode b len => exact Text.read_print_decode b len
    | validate r => exact Text.read_print_validate r
    | describe r => exact Text.read_print_describe r

end Sys2Proof
end
